-- ==== Sys2Proof/Word.lean ====
section
/-!
DEFINITION. The widths the hardware fixes (00_scope.md R7): a byte is 8 bits, a word and an address are 16 bits.
-/

namespace Sys2Proof

/-- An 8-bit value: a register, the flag byte, a memory byte, a port number (R7). -/
abbrev Byte := BitVec 8

/-- A 16-bit value: SP, PC, a register pair, an address (R7). -/
abbrev Word := BitVec 16

end Sys2Proof
end

