-- ==== Sys2Proof/Syntax.lean ====
section
/-!
DEFINITION. The instructions: one constructor per row of spec/opcode_table.json, that is, one per opcode byte value
(30_encoding.md R100). The twelve synonym bytes of R103 have constructors of their own, named after their byte; what
they do is that of the byte they are a synonym of. The table gives register operands by the opcode byte, so only
immediates are arguments: `d` is `imm8` (R93), `v` and `a` are `imm16` (R94). The rows with an immediate come first, in
the table's order, then the rows without one (Lean's compiler asks that constructors with arguments have small indices).
-/

namespace Sys2Proof

/-- The 8-bit operand selectors 0 to 7 in order: six registers, memory at HL, the accumulator (10_state.md R21). -/
inductive Sel where
  | b | c | d | e | h | l | m | a
  deriving DecidableEq, Repr

/-- The pair selectors 0 to 3 in the SP class (10_state.md R25). -/
inductive Pair where
  | bc | de | hl | sp
  deriving DecidableEq, Repr

/-- The pair selectors 0 to 3 in the PSW class, used by PUSH and POP (10_state.md R24, R25). -/
inductive StackPair where
  | bc | de | hl | psw
  deriving DecidableEq, Repr

/-- The condition codes 0 to 7 in order (10_state.md R38). -/
inductive Cond where
  | nz | z | nc | c | po | pe | p | m
  deriving DecidableEq, Repr

/-- The instructions (R100). -/
inductive Instr where
  /-- 0x01 LXI B,d16 (R126) -/
  | lxiB (v : Word)
  /-- 0x06 MVI B,d8 (R124) -/
  | mviB (d : Byte)
  /-- 0x0E MVI C,d8 (R124) -/
  | mviC (d : Byte)
  /-- 0x11 LXI D,d16 (R126) -/
  | lxiD (v : Word)
  /-- 0x16 MVI D,d8 (R124) -/
  | mviD (d : Byte)
  /-- 0x1E MVI E,d8 (R124) -/
  | mviE (d : Byte)
  /-- 0x21 LXI H,d16 (R126) -/
  | lxiH (v : Word)
  /-- 0x22 SHLD a16 (R130) -/
  | shld (a : Word)
  /-- 0x26 MVI H,d8 (R124) -/
  | mviH (d : Byte)
  /-- 0x2A LHLD a16 (R129) -/
  | lhld (a : Word)
  /-- 0x2E MVI L,d8 (R124) -/
  | mviL (d : Byte)
  /-- 0x31 LXI SP,d16 (R126) -/
  | lxiSP (v : Word)
  /-- 0x32 STA a16 (R128) -/
  | sta (a : Word)
  /-- 0x36 MVI M,d8 (R125) -/
  | mviM (d : Byte)
  /-- 0x3A LDA a16 (R127) -/
  | lda (a : Word)
  /-- 0x3E MVI A,d8 (R124) -/
  | mviA (d : Byte)
  /-- 0xC2 JNZ a16 (R222) -/
  | jnz (a : Word)
  /-- 0xC3 JMP a16 (R221) -/
  | jmp (a : Word)
  /-- 0xC4 CNZ a16 (R242) -/
  | cnz (a : Word)
  /-- 0xC6 ADI d8 (R155) -/
  | adi (d : Byte)
  /-- 0xCA JZ a16 (R223) -/
  | jz (a : Word)
  /-- 0xCB JMP a16, synonym of 0xC3 (R221) -/
  | jmpCB (a : Word)
  /-- 0xCC CZ a16 (R243) -/
  | cz (a : Word)
  /-- 0xCD CALL a16 (R241) -/
  | call (a : Word)
  /-- 0xCE ACI d8 (R158) -/
  | aci (d : Byte)
  /-- 0xD2 JNC a16 (R224) -/
  | jnc (a : Word)
  /-- 0xD3 OUT d8 (R292) -/
  | outp (d : Byte)
  /-- 0xD4 CNC a16 (R244) -/
  | cnc (a : Word)
  /-- 0xD6 SUI d8 (R161) -/
  | sui (d : Byte)
  /-- 0xDA JC a16 (R225) -/
  | jc (a : Word)
  /-- 0xDB IN d8 (R291) -/
  | inp (d : Byte)
  /-- 0xDC CC a16 (R245) -/
  | cc (a : Word)
  /-- 0xDD CALL a16, synonym of 0xCD (R241) -/
  | callDD (a : Word)
  /-- 0xDE SBI d8 (R164) -/
  | sbi (d : Byte)
  /-- 0xE2 JPO a16 (R226) -/
  | jpo (a : Word)
  /-- 0xE4 CPO a16 (R246) -/
  | cpo (a : Word)
  /-- 0xE6 ANI d8 (R193) -/
  | ani (d : Byte)
  /-- 0xEA JPE a16 (R227) -/
  | jpe (a : Word)
  /-- 0xEC CPE a16 (R247) -/
  | cpe (a : Word)
  /-- 0xED CALL a16, synonym of 0xCD (R241) -/
  | callED (a : Word)
  /-- 0xEE XRI d8 (R196) -/
  | xri (d : Byte)
  /-- 0xF2 JP a16 (R228) -/
  | jp (a : Word)
  /-- 0xF4 CP a16 (R248) -/
  | cp (a : Word)
  /-- 0xF6 ORI d8 (R199) -/
  | ori (d : Byte)
  /-- 0xFA JM a16 (R229) -/
  | jm (a : Word)
  /-- 0xFC CM a16 (R249) -/
  | cm (a : Word)
  /-- 0xFD CALL a16, synonym of 0xCD (R241) -/
  | callFD (a : Word)
  /-- 0xFE CPI d8 (R167) -/
  | cpi (d : Byte)
  /-- 0x00 NOP (R312) -/
  | nop
  /-- 0x02 STAX B (R132) -/
  | staxB
  /-- 0x03 INX B (R172) -/
  | inxB
  /-- 0x04 INR B (R168) -/
  | inrB
  /-- 0x05 DCR B (R170) -/
  | dcrB
  /-- 0x07 RLC (R201) -/
  | rlc
  /-- 0x08 NOP, synonym of 0x00 (R312) -/
  | nop08
  /-- 0x09 DAD B (R174) -/
  | dadB
  /-- 0x0A LDAX B (R131) -/
  | ldaxB
  /-- 0x0B DCX B (R173) -/
  | dcxB
  /-- 0x0C INR C (R168) -/
  | inrC
  /-- 0x0D DCR C (R170) -/
  | dcrC
  /-- 0x0F RRC (R202) -/
  | rrc
  /-- 0x10 NOP, synonym of 0x00 (R312) -/
  | nop10
  /-- 0x12 STAX D (R132) -/
  | staxD
  /-- 0x13 INX D (R172) -/
  | inxD
  /-- 0x14 INR D (R168) -/
  | inrD
  /-- 0x15 DCR D (R170) -/
  | dcrD
  /-- 0x17 RAL (R203) -/
  | ral
  /-- 0x18 NOP, synonym of 0x00 (R312) -/
  | nop18
  /-- 0x19 DAD D (R174) -/
  | dadD
  /-- 0x1A LDAX D (R131) -/
  | ldaxD
  /-- 0x1B DCX D (R173) -/
  | dcxD
  /-- 0x1C INR E (R168) -/
  | inrE
  /-- 0x1D DCR E (R170) -/
  | dcrE
  /-- 0x1F RAR (R204) -/
  | rar
  /-- 0x20 NOP, synonym of 0x00 (R312) -/
  | nop20
  /-- 0x23 INX H (R172) -/
  | inxH
  /-- 0x24 INR H (R168) -/
  | inrH
  /-- 0x25 DCR H (R170) -/
  | dcrH
  /-- 0x27 DAA (R175) -/
  | daa
  /-- 0x28 NOP, synonym of 0x00 (R312) -/
  | nop28
  /-- 0x29 DAD H (R174) -/
  | dadH
  /-- 0x2B DCX H (R173) -/
  | dcxH
  /-- 0x2C INR L (R168) -/
  | inrL
  /-- 0x2D DCR L (R170) -/
  | dcrL
  /-- 0x2F CMA (R200) -/
  | cma
  /-- 0x30 NOP, synonym of 0x00 (R312) -/
  | nop30
  /-- 0x33 INX SP (R172) -/
  | inxSP
  /-- 0x34 INR M (R169) -/
  | inrM
  /-- 0x35 DCR M (R171) -/
  | dcrM
  /-- 0x37 STC (R206) -/
  | stc
  /-- 0x38 NOP, synonym of 0x00 (R312) -/
  | nop38
  /-- 0x39 DAD SP (R174) -/
  | dadSP
  /-- 0x3B DCX SP (R173) -/
  | dcxSP
  /-- 0x3C INR A (R168) -/
  | inrA
  /-- 0x3D DCR A (R170) -/
  | dcrA
  /-- 0x3F CMC (R205) -/
  | cmc
  /-- 0x40 MOV B,B (R121) -/
  | movBB
  /-- 0x41 MOV B,C (R121) -/
  | movBC
  /-- 0x42 MOV B,D (R121) -/
  | movBD
  /-- 0x43 MOV B,E (R121) -/
  | movBE
  /-- 0x44 MOV B,H (R121) -/
  | movBH
  /-- 0x45 MOV B,L (R121) -/
  | movBL
  /-- 0x46 MOV B,M (R122) -/
  | movBM
  /-- 0x47 MOV B,A (R121) -/
  | movBA
  /-- 0x48 MOV C,B (R121) -/
  | movCB
  /-- 0x49 MOV C,C (R121) -/
  | movCC
  /-- 0x4A MOV C,D (R121) -/
  | movCD
  /-- 0x4B MOV C,E (R121) -/
  | movCE
  /-- 0x4C MOV C,H (R121) -/
  | movCH
  /-- 0x4D MOV C,L (R121) -/
  | movCL
  /-- 0x4E MOV C,M (R122) -/
  | movCM
  /-- 0x4F MOV C,A (R121) -/
  | movCA
  /-- 0x50 MOV D,B (R121) -/
  | movDB
  /-- 0x51 MOV D,C (R121) -/
  | movDC
  /-- 0x52 MOV D,D (R121) -/
  | movDD
  /-- 0x53 MOV D,E (R121) -/
  | movDE
  /-- 0x54 MOV D,H (R121) -/
  | movDH
  /-- 0x55 MOV D,L (R121) -/
  | movDL
  /-- 0x56 MOV D,M (R122) -/
  | movDM
  /-- 0x57 MOV D,A (R121) -/
  | movDA
  /-- 0x58 MOV E,B (R121) -/
  | movEB
  /-- 0x59 MOV E,C (R121) -/
  | movEC
  /-- 0x5A MOV E,D (R121) -/
  | movED
  /-- 0x5B MOV E,E (R121) -/
  | movEE
  /-- 0x5C MOV E,H (R121) -/
  | movEH
  /-- 0x5D MOV E,L (R121) -/
  | movEL
  /-- 0x5E MOV E,M (R122) -/
  | movEM
  /-- 0x5F MOV E,A (R121) -/
  | movEA
  /-- 0x60 MOV H,B (R121) -/
  | movHB
  /-- 0x61 MOV H,C (R121) -/
  | movHC
  /-- 0x62 MOV H,D (R121) -/
  | movHD
  /-- 0x63 MOV H,E (R121) -/
  | movHE
  /-- 0x64 MOV H,H (R121) -/
  | movHH
  /-- 0x65 MOV H,L (R121) -/
  | movHL
  /-- 0x66 MOV H,M (R122) -/
  | movHM
  /-- 0x67 MOV H,A (R121) -/
  | movHA
  /-- 0x68 MOV L,B (R121) -/
  | movLB
  /-- 0x69 MOV L,C (R121) -/
  | movLC
  /-- 0x6A MOV L,D (R121) -/
  | movLD
  /-- 0x6B MOV L,E (R121) -/
  | movLE
  /-- 0x6C MOV L,H (R121) -/
  | movLH
  /-- 0x6D MOV L,L (R121) -/
  | movLL
  /-- 0x6E MOV L,M (R122) -/
  | movLM
  /-- 0x6F MOV L,A (R121) -/
  | movLA
  /-- 0x70 MOV M,B (R123) -/
  | movMB
  /-- 0x71 MOV M,C (R123) -/
  | movMC
  /-- 0x72 MOV M,D (R123) -/
  | movMD
  /-- 0x73 MOV M,E (R123) -/
  | movME
  /-- 0x74 MOV M,H (R123) -/
  | movMH
  /-- 0x75 MOV M,L (R123) -/
  | movML
  /-- 0x76 (unassigned; Intel HLT) (R313) -/
  | unassigned76
  /-- 0x77 MOV M,A (R123) -/
  | movMA
  /-- 0x78 MOV A,B (R121) -/
  | movAB
  /-- 0x79 MOV A,C (R121) -/
  | movAC
  /-- 0x7A MOV A,D (R121) -/
  | movAD
  /-- 0x7B MOV A,E (R121) -/
  | movAE
  /-- 0x7C MOV A,H (R121) -/
  | movAH
  /-- 0x7D MOV A,L (R121) -/
  | movAL
  /-- 0x7E MOV A,M (R122) -/
  | movAM
  /-- 0x7F MOV A,A (R121) -/
  | movAA
  /-- 0x80 ADD B (R153) -/
  | addB
  /-- 0x81 ADD C (R153) -/
  | addC
  /-- 0x82 ADD D (R153) -/
  | addD
  /-- 0x83 ADD E (R153) -/
  | addE
  /-- 0x84 ADD H (R153) -/
  | addH
  /-- 0x85 ADD L (R153) -/
  | addL
  /-- 0x86 ADD M (R154) -/
  | addM
  /-- 0x87 ADD A (R153) -/
  | addA
  /-- 0x88 ADC B (R156) -/
  | adcB
  /-- 0x89 ADC C (R156) -/
  | adcC
  /-- 0x8A ADC D (R156) -/
  | adcD
  /-- 0x8B ADC E (R156) -/
  | adcE
  /-- 0x8C ADC H (R156) -/
  | adcH
  /-- 0x8D ADC L (R156) -/
  | adcL
  /-- 0x8E ADC M (R157) -/
  | adcM
  /-- 0x8F ADC A (R156) -/
  | adcA
  /-- 0x90 SUB B (R159) -/
  | subB
  /-- 0x91 SUB C (R159) -/
  | subC
  /-- 0x92 SUB D (R159) -/
  | subD
  /-- 0x93 SUB E (R159) -/
  | subE
  /-- 0x94 SUB H (R159) -/
  | subH
  /-- 0x95 SUB L (R159) -/
  | subL
  /-- 0x96 SUB M (R160) -/
  | subM
  /-- 0x97 SUB A (R159) -/
  | subA
  /-- 0x98 SBB B (R162) -/
  | sbbB
  /-- 0x99 SBB C (R162) -/
  | sbbC
  /-- 0x9A SBB D (R162) -/
  | sbbD
  /-- 0x9B SBB E (R162) -/
  | sbbE
  /-- 0x9C SBB H (R162) -/
  | sbbH
  /-- 0x9D SBB L (R162) -/
  | sbbL
  /-- 0x9E SBB M (R163) -/
  | sbbM
  /-- 0x9F SBB A (R162) -/
  | sbbA
  /-- 0xA0 ANA B (R191) -/
  | anaB
  /-- 0xA1 ANA C (R191) -/
  | anaC
  /-- 0xA2 ANA D (R191) -/
  | anaD
  /-- 0xA3 ANA E (R191) -/
  | anaE
  /-- 0xA4 ANA H (R191) -/
  | anaH
  /-- 0xA5 ANA L (R191) -/
  | anaL
  /-- 0xA6 ANA M (R192) -/
  | anaM
  /-- 0xA7 ANA A (R191) -/
  | anaA
  /-- 0xA8 XRA B (R194) -/
  | xraB
  /-- 0xA9 XRA C (R194) -/
  | xraC
  /-- 0xAA XRA D (R194) -/
  | xraD
  /-- 0xAB XRA E (R194) -/
  | xraE
  /-- 0xAC XRA H (R194) -/
  | xraH
  /-- 0xAD XRA L (R194) -/
  | xraL
  /-- 0xAE XRA M (R195) -/
  | xraM
  /-- 0xAF XRA A (R194) -/
  | xraA
  /-- 0xB0 ORA B (R197) -/
  | oraB
  /-- 0xB1 ORA C (R197) -/
  | oraC
  /-- 0xB2 ORA D (R197) -/
  | oraD
  /-- 0xB3 ORA E (R197) -/
  | oraE
  /-- 0xB4 ORA H (R197) -/
  | oraH
  /-- 0xB5 ORA L (R197) -/
  | oraL
  /-- 0xB6 ORA M (R198) -/
  | oraM
  /-- 0xB7 ORA A (R197) -/
  | oraA
  /-- 0xB8 CMP B (R165) -/
  | cmpB
  /-- 0xB9 CMP C (R165) -/
  | cmpC
  /-- 0xBA CMP D (R165) -/
  | cmpD
  /-- 0xBB CMP E (R165) -/
  | cmpE
  /-- 0xBC CMP H (R165) -/
  | cmpH
  /-- 0xBD CMP L (R165) -/
  | cmpL
  /-- 0xBE CMP M (R166) -/
  | cmpM
  /-- 0xBF CMP A (R165) -/
  | cmpA
  /-- 0xC0 RNZ (R251) -/
  | rnz
  /-- 0xC1 POP B (R276) -/
  | popB
  /-- 0xC5 PUSH B (R271) -/
  | pushB
  /-- 0xC7 RST 0 (R262) -/
  | rst0
  /-- 0xC8 RZ (R252) -/
  | rz
  /-- 0xC9 RET (R250) -/
  | ret
  /-- 0xCF RST 1 (R262) -/
  | rst1
  /-- 0xD0 RNC (R253) -/
  | rnc
  /-- 0xD1 POP D (R277) -/
  | popD
  /-- 0xD5 PUSH D (R272) -/
  | pushD
  /-- 0xD7 RST 2 (R262) -/
  | rst2
  /-- 0xD8 RC (R254) -/
  | rc
  /-- 0xD9 RET, synonym of 0xC9 (R250) -/
  | retD9
  /-- 0xDF RST 3 (R262) -/
  | rst3
  /-- 0xE0 RPO (R255) -/
  | rpo
  /-- 0xE1 POP H (R278) -/
  | popH
  /-- 0xE3 XTHL (R134) -/
  | xthl
  /-- 0xE5 PUSH H (R273) -/
  | pushH
  /-- 0xE7 RST 4 (R262) -/
  | rst4
  /-- 0xE8 RPE (R256) -/
  | rpe
  /-- 0xE9 PCHL (R259) -/
  | pchl
  /-- 0xEB XCHG (R133) -/
  | xchg
  /-- 0xEF RST 5 (R262) -/
  | rst5
  /-- 0xF0 RP (R257) -/
  | rp
  /-- 0xF1 POP PSW (R279) -/
  | popPSW
  /-- 0xF3 DI (R311) -/
  | di
  /-- 0xF5 PUSH PSW (R274) -/
  | pushPSW
  /-- 0xF7 RST 6 (R262) -/
  | rst6
  /-- 0xF8 RM (R258) -/
  | rm
  /-- 0xF9 SPHL (R135) -/
  | sphl
  /-- 0xFB EI (R310) -/
  | ei
  /-- 0xFF RST 7 (R262) -/
  | rst7
  deriving DecidableEq, Repr

end Sys2Proof
end

