-- ==== Sys2Proof/Decode.lean ====
section
/-!
DEFINITION. The encoding (30_encoding.md): the length of an instruction from its opcode byte (R105), the opcode map as
the 16 rows of R100's grid, the decoder over bytes, and the encoder written from the same table.
-/

namespace Sys2Proof

/-- The more significant byte of a word (00_scope.md R10). -/
def hi8 (w : Word) : Byte := w.extractLsb' 8 8

/-- The less significant byte of a word (00_scope.md R10). -/
def lo8 (w : Word) : Byte := w.extractLsb' 0 8

/-- The word whose more significant byte is `hi`: the `{hi, lo}` of 00_scope.md R10. -/
def word (hi lo : Byte) : Word := hi ++ lo

/-- The length in bytes of the instruction with this opcode byte, by the patterns of R105: F3, F2, else F1. -/
def opLength (op : Byte) : Nat :=
  if op.extractLsb' 6 2 = 0#2 && op.extractLsb' 0 4 = 1#4 then 3
  else if op = 0x22#8 || op = 0x2A#8 || op = 0x32#8 || op = 0x3A#8 then 3
  else if op.extractLsb' 6 2 = 3#2 && (op.extractLsb' 0 3 = 2#3 || op.extractLsb' 0 3 = 4#3) then 3
  else if op = 0xC3#8 || op = 0xCB#8 || op = 0xCD#8 || op = 0xDD#8 || op = 0xED#8 || op = 0xFD#8 then 3
  else if op.extractLsb' 6 2 = 0#2 && op.extractLsb' 0 3 = 6#3 then 2
  else if op.extractLsb' 6 2 = 3#2 && op.extractLsb' 0 3 = 6#3 then 2
  else if op = 0xD3#8 || op = 0xDB#8 then 2
  else 1

/-- One entry of the opcode map: the instruction, given byte 2 and byte 3 (R90). An entry of format F1 ignores both,
one of format F2 the second. -/
abbrev OpEntry := Byte → Byte → Instr

/-- Row 0x of the opcode map (R100). -/
def opcodeRow0 : List OpEntry := [
  fun _ _ => .nop,
  fun b2 b3 => .lxiB (word b3 b2),
  fun _ _ => .staxB,
  fun _ _ => .inxB,
  fun _ _ => .inrB,
  fun _ _ => .dcrB,
  fun b2 _ => .mviB b2,
  fun _ _ => .rlc,
  fun _ _ => .nop08,
  fun _ _ => .dadB,
  fun _ _ => .ldaxB,
  fun _ _ => .dcxB,
  fun _ _ => .inrC,
  fun _ _ => .dcrC,
  fun b2 _ => .mviC b2,
  fun _ _ => .rrc]

/-- Row 1x of the opcode map (R100). -/
def opcodeRow1 : List OpEntry := [
  fun _ _ => .nop10,
  fun b2 b3 => .lxiD (word b3 b2),
  fun _ _ => .staxD,
  fun _ _ => .inxD,
  fun _ _ => .inrD,
  fun _ _ => .dcrD,
  fun b2 _ => .mviD b2,
  fun _ _ => .ral,
  fun _ _ => .nop18,
  fun _ _ => .dadD,
  fun _ _ => .ldaxD,
  fun _ _ => .dcxD,
  fun _ _ => .inrE,
  fun _ _ => .dcrE,
  fun b2 _ => .mviE b2,
  fun _ _ => .rar]

/-- Row 2x of the opcode map (R100). -/
def opcodeRow2 : List OpEntry := [
  fun _ _ => .nop20,
  fun b2 b3 => .lxiH (word b3 b2),
  fun b2 b3 => .shld (word b3 b2),
  fun _ _ => .inxH,
  fun _ _ => .inrH,
  fun _ _ => .dcrH,
  fun b2 _ => .mviH b2,
  fun _ _ => .daa,
  fun _ _ => .nop28,
  fun _ _ => .dadH,
  fun b2 b3 => .lhld (word b3 b2),
  fun _ _ => .dcxH,
  fun _ _ => .inrL,
  fun _ _ => .dcrL,
  fun b2 _ => .mviL b2,
  fun _ _ => .cma]

/-- Row 3x of the opcode map (R100). -/
def opcodeRow3 : List OpEntry := [
  fun _ _ => .nop30,
  fun b2 b3 => .lxiSP (word b3 b2),
  fun b2 b3 => .sta (word b3 b2),
  fun _ _ => .inxSP,
  fun _ _ => .inrM,
  fun _ _ => .dcrM,
  fun b2 _ => .mviM b2,
  fun _ _ => .stc,
  fun _ _ => .nop38,
  fun _ _ => .dadSP,
  fun b2 b3 => .lda (word b3 b2),
  fun _ _ => .dcxSP,
  fun _ _ => .inrA,
  fun _ _ => .dcrA,
  fun b2 _ => .mviA b2,
  fun _ _ => .cmc]

/-- Row 4x of the opcode map (R100). -/
def opcodeRow4 : List OpEntry := [
  fun _ _ => .movBB,
  fun _ _ => .movBC,
  fun _ _ => .movBD,
  fun _ _ => .movBE,
  fun _ _ => .movBH,
  fun _ _ => .movBL,
  fun _ _ => .movBM,
  fun _ _ => .movBA,
  fun _ _ => .movCB,
  fun _ _ => .movCC,
  fun _ _ => .movCD,
  fun _ _ => .movCE,
  fun _ _ => .movCH,
  fun _ _ => .movCL,
  fun _ _ => .movCM,
  fun _ _ => .movCA]

/-- Row 5x of the opcode map (R100). -/
def opcodeRow5 : List OpEntry := [
  fun _ _ => .movDB,
  fun _ _ => .movDC,
  fun _ _ => .movDD,
  fun _ _ => .movDE,
  fun _ _ => .movDH,
  fun _ _ => .movDL,
  fun _ _ => .movDM,
  fun _ _ => .movDA,
  fun _ _ => .movEB,
  fun _ _ => .movEC,
  fun _ _ => .movED,
  fun _ _ => .movEE,
  fun _ _ => .movEH,
  fun _ _ => .movEL,
  fun _ _ => .movEM,
  fun _ _ => .movEA]

/-- Row 6x of the opcode map (R100). -/
def opcodeRow6 : List OpEntry := [
  fun _ _ => .movHB,
  fun _ _ => .movHC,
  fun _ _ => .movHD,
  fun _ _ => .movHE,
  fun _ _ => .movHH,
  fun _ _ => .movHL,
  fun _ _ => .movHM,
  fun _ _ => .movHA,
  fun _ _ => .movLB,
  fun _ _ => .movLC,
  fun _ _ => .movLD,
  fun _ _ => .movLE,
  fun _ _ => .movLH,
  fun _ _ => .movLL,
  fun _ _ => .movLM,
  fun _ _ => .movLA]

/-- Row 7x of the opcode map (R100). -/
def opcodeRow7 : List OpEntry := [
  fun _ _ => .movMB,
  fun _ _ => .movMC,
  fun _ _ => .movMD,
  fun _ _ => .movME,
  fun _ _ => .movMH,
  fun _ _ => .movML,
  fun _ _ => .unassigned76,
  fun _ _ => .movMA,
  fun _ _ => .movAB,
  fun _ _ => .movAC,
  fun _ _ => .movAD,
  fun _ _ => .movAE,
  fun _ _ => .movAH,
  fun _ _ => .movAL,
  fun _ _ => .movAM,
  fun _ _ => .movAA]

/-- Row 8x of the opcode map (R100). -/
def opcodeRow8 : List OpEntry := [
  fun _ _ => .addB,
  fun _ _ => .addC,
  fun _ _ => .addD,
  fun _ _ => .addE,
  fun _ _ => .addH,
  fun _ _ => .addL,
  fun _ _ => .addM,
  fun _ _ => .addA,
  fun _ _ => .adcB,
  fun _ _ => .adcC,
  fun _ _ => .adcD,
  fun _ _ => .adcE,
  fun _ _ => .adcH,
  fun _ _ => .adcL,
  fun _ _ => .adcM,
  fun _ _ => .adcA]

/-- Row 9x of the opcode map (R100). -/
def opcodeRow9 : List OpEntry := [
  fun _ _ => .subB,
  fun _ _ => .subC,
  fun _ _ => .subD,
  fun _ _ => .subE,
  fun _ _ => .subH,
  fun _ _ => .subL,
  fun _ _ => .subM,
  fun _ _ => .subA,
  fun _ _ => .sbbB,
  fun _ _ => .sbbC,
  fun _ _ => .sbbD,
  fun _ _ => .sbbE,
  fun _ _ => .sbbH,
  fun _ _ => .sbbL,
  fun _ _ => .sbbM,
  fun _ _ => .sbbA]

/-- Row Ax of the opcode map (R100). -/
def opcodeRowA : List OpEntry := [
  fun _ _ => .anaB,
  fun _ _ => .anaC,
  fun _ _ => .anaD,
  fun _ _ => .anaE,
  fun _ _ => .anaH,
  fun _ _ => .anaL,
  fun _ _ => .anaM,
  fun _ _ => .anaA,
  fun _ _ => .xraB,
  fun _ _ => .xraC,
  fun _ _ => .xraD,
  fun _ _ => .xraE,
  fun _ _ => .xraH,
  fun _ _ => .xraL,
  fun _ _ => .xraM,
  fun _ _ => .xraA]

/-- Row Bx of the opcode map (R100). -/
def opcodeRowB : List OpEntry := [
  fun _ _ => .oraB,
  fun _ _ => .oraC,
  fun _ _ => .oraD,
  fun _ _ => .oraE,
  fun _ _ => .oraH,
  fun _ _ => .oraL,
  fun _ _ => .oraM,
  fun _ _ => .oraA,
  fun _ _ => .cmpB,
  fun _ _ => .cmpC,
  fun _ _ => .cmpD,
  fun _ _ => .cmpE,
  fun _ _ => .cmpH,
  fun _ _ => .cmpL,
  fun _ _ => .cmpM,
  fun _ _ => .cmpA]

/-- Row Cx of the opcode map (R100). -/
def opcodeRowC : List OpEntry := [
  fun _ _ => .rnz,
  fun _ _ => .popB,
  fun b2 b3 => .jnz (word b3 b2),
  fun b2 b3 => .jmp (word b3 b2),
  fun b2 b3 => .cnz (word b3 b2),
  fun _ _ => .pushB,
  fun b2 _ => .adi b2,
  fun _ _ => .rst0,
  fun _ _ => .rz,
  fun _ _ => .ret,
  fun b2 b3 => .jz (word b3 b2),
  fun b2 b3 => .jmpCB (word b3 b2),
  fun b2 b3 => .cz (word b3 b2),
  fun b2 b3 => .call (word b3 b2),
  fun b2 _ => .aci b2,
  fun _ _ => .rst1]

/-- Row Dx of the opcode map (R100). -/
def opcodeRowD : List OpEntry := [
  fun _ _ => .rnc,
  fun _ _ => .popD,
  fun b2 b3 => .jnc (word b3 b2),
  fun b2 _ => .outp b2,
  fun b2 b3 => .cnc (word b3 b2),
  fun _ _ => .pushD,
  fun b2 _ => .sui b2,
  fun _ _ => .rst2,
  fun _ _ => .rc,
  fun _ _ => .retD9,
  fun b2 b3 => .jc (word b3 b2),
  fun b2 _ => .inp b2,
  fun b2 b3 => .cc (word b3 b2),
  fun b2 b3 => .callDD (word b3 b2),
  fun b2 _ => .sbi b2,
  fun _ _ => .rst3]

/-- Row Ex of the opcode map (R100). -/
def opcodeRowE : List OpEntry := [
  fun _ _ => .rpo,
  fun _ _ => .popH,
  fun b2 b3 => .jpo (word b3 b2),
  fun _ _ => .xthl,
  fun b2 b3 => .cpo (word b3 b2),
  fun _ _ => .pushH,
  fun b2 _ => .ani b2,
  fun _ _ => .rst4,
  fun _ _ => .rpe,
  fun _ _ => .pchl,
  fun b2 b3 => .jpe (word b3 b2),
  fun _ _ => .xchg,
  fun b2 b3 => .cpe (word b3 b2),
  fun b2 b3 => .callED (word b3 b2),
  fun b2 _ => .xri b2,
  fun _ _ => .rst5]

/-- Row Fx of the opcode map (R100). -/
def opcodeRowF : List OpEntry := [
  fun _ _ => .rp,
  fun _ _ => .popPSW,
  fun b2 b3 => .jp (word b3 b2),
  fun _ _ => .di,
  fun b2 b3 => .cp (word b3 b2),
  fun _ _ => .pushPSW,
  fun b2 _ => .ori b2,
  fun _ _ => .rst6,
  fun _ _ => .rm,
  fun _ _ => .sphl,
  fun b2 b3 => .jm (word b3 b2),
  fun _ _ => .ei,
  fun b2 b3 => .cm (word b3 b2),
  fun b2 b3 => .callFD (word b3 b2),
  fun b2 _ => .cpi b2,
  fun _ _ => .rst7]

/-- The opcode map: 256 entries keyed by the opcode byte value (R100, R101). -/
def opcodeMap : List OpEntry :=
  opcodeRow0 ++ opcodeRow1 ++ opcodeRow2 ++ opcodeRow3 ++
  opcodeRow4 ++ opcodeRow5 ++ opcodeRow6 ++ opcodeRow7 ++
  opcodeRow8 ++ opcodeRow9 ++ opcodeRowA ++ opcodeRowB ++
  opcodeRowC ++ opcodeRowD ++ opcodeRowE ++ opcodeRowF

/-- The instruction of an opcode byte and the two bytes after it. It has no error case: "every byte value is a valid
(if possibly unimplemented) opcode" (R91). The default of the lookup is never taken, since the map has 256 entries. -/
def decodeBytes (op b2 b3 : Byte) : Instr :=
  opcodeMap.getD op.toNat (fun _ _ => .unassigned76) b2 b3

/-- Why a list of bytes is no whole instruction. -/
inductive DecodeError where
  /-- There is no opcode byte. -/
  | noBytes
  /-- The list ends before the operand bytes that the opcode's format asks for (R90). -/
  | truncated (op : Byte)
  deriving DecidableEq, Repr

/-- Decode one instruction from the front of a list of bytes and answer it with the bytes left over (R101). -/
def decode : List Byte → Except DecodeError (Instr × List Byte)
  | [] => .error .noBytes
  | op :: rest =>
    match opLength op, rest with
    | 1, rest => .ok (decodeBytes op 0#8 0#8, rest)
    | 2, b2 :: rest => .ok (decodeBytes op b2 0#8, rest)
    | 3, b2 :: b3 :: rest => .ok (decodeBytes op b2 b3, rest)
    | _, _ => .error (.truncated op)

/-- The instruction the decoder reads from the bytes of `w`, bit 0 the least significant bit of the first byte; the
bits at `nbits` and above are zero. -/
def decodeTableWord (nbits w : Nat) : Option Instr :=
  let bits := w % 2 ^ nbits
  match decode [BitVec.ofNat 8 bits, BitVec.ofNat 8 (bits / 256), BitVec.ofNat 8 (bits / 65536)] with
  | .ok (i, _) => some i
  | .error _ => none

/-- The bytes of an instruction: its opcode, then `imm8`, or the low and the high byte of `imm16` (R90, R94, R100). -/
def encode : Instr → List Byte
  | .nop => [0x00#8]
  | .lxiB v => [0x01#8, lo8 v, hi8 v]
  | .staxB => [0x02#8]
  | .inxB => [0x03#8]
  | .inrB => [0x04#8]
  | .dcrB => [0x05#8]
  | .mviB d => [0x06#8, d]
  | .rlc => [0x07#8]
  | .nop08 => [0x08#8]
  | .dadB => [0x09#8]
  | .ldaxB => [0x0A#8]
  | .dcxB => [0x0B#8]
  | .inrC => [0x0C#8]
  | .dcrC => [0x0D#8]
  | .mviC d => [0x0E#8, d]
  | .rrc => [0x0F#8]
  | .nop10 => [0x10#8]
  | .lxiD v => [0x11#8, lo8 v, hi8 v]
  | .staxD => [0x12#8]
  | .inxD => [0x13#8]
  | .inrD => [0x14#8]
  | .dcrD => [0x15#8]
  | .mviD d => [0x16#8, d]
  | .ral => [0x17#8]
  | .nop18 => [0x18#8]
  | .dadD => [0x19#8]
  | .ldaxD => [0x1A#8]
  | .dcxD => [0x1B#8]
  | .inrE => [0x1C#8]
  | .dcrE => [0x1D#8]
  | .mviE d => [0x1E#8, d]
  | .rar => [0x1F#8]
  | .nop20 => [0x20#8]
  | .lxiH v => [0x21#8, lo8 v, hi8 v]
  | .shld v => [0x22#8, lo8 v, hi8 v]
  | .inxH => [0x23#8]
  | .inrH => [0x24#8]
  | .dcrH => [0x25#8]
  | .mviH d => [0x26#8, d]
  | .daa => [0x27#8]
  | .nop28 => [0x28#8]
  | .dadH => [0x29#8]
  | .lhld v => [0x2A#8, lo8 v, hi8 v]
  | .dcxH => [0x2B#8]
  | .inrL => [0x2C#8]
  | .dcrL => [0x2D#8]
  | .mviL d => [0x2E#8, d]
  | .cma => [0x2F#8]
  | .nop30 => [0x30#8]
  | .lxiSP v => [0x31#8, lo8 v, hi8 v]
  | .sta v => [0x32#8, lo8 v, hi8 v]
  | .inxSP => [0x33#8]
  | .inrM => [0x34#8]
  | .dcrM => [0x35#8]
  | .mviM d => [0x36#8, d]
  | .stc => [0x37#8]
  | .nop38 => [0x38#8]
  | .dadSP => [0x39#8]
  | .lda v => [0x3A#8, lo8 v, hi8 v]
  | .dcxSP => [0x3B#8]
  | .inrA => [0x3C#8]
  | .dcrA => [0x3D#8]
  | .mviA d => [0x3E#8, d]
  | .cmc => [0x3F#8]
  | .movBB => [0x40#8]
  | .movBC => [0x41#8]
  | .movBD => [0x42#8]
  | .movBE => [0x43#8]
  | .movBH => [0x44#8]
  | .movBL => [0x45#8]
  | .movBM => [0x46#8]
  | .movBA => [0x47#8]
  | .movCB => [0x48#8]
  | .movCC => [0x49#8]
  | .movCD => [0x4A#8]
  | .movCE => [0x4B#8]
  | .movCH => [0x4C#8]
  | .movCL => [0x4D#8]
  | .movCM => [0x4E#8]
  | .movCA => [0x4F#8]
  | .movDB => [0x50#8]
  | .movDC => [0x51#8]
  | .movDD => [0x52#8]
  | .movDE => [0x53#8]
  | .movDH => [0x54#8]
  | .movDL => [0x55#8]
  | .movDM => [0x56#8]
  | .movDA => [0x57#8]
  | .movEB => [0x58#8]
  | .movEC => [0x59#8]
  | .movED => [0x5A#8]
  | .movEE => [0x5B#8]
  | .movEH => [0x5C#8]
  | .movEL => [0x5D#8]
  | .movEM => [0x5E#8]
  | .movEA => [0x5F#8]
  | .movHB => [0x60#8]
  | .movHC => [0x61#8]
  | .movHD => [0x62#8]
  | .movHE => [0x63#8]
  | .movHH => [0x64#8]
  | .movHL => [0x65#8]
  | .movHM => [0x66#8]
  | .movHA => [0x67#8]
  | .movLB => [0x68#8]
  | .movLC => [0x69#8]
  | .movLD => [0x6A#8]
  | .movLE => [0x6B#8]
  | .movLH => [0x6C#8]
  | .movLL => [0x6D#8]
  | .movLM => [0x6E#8]
  | .movLA => [0x6F#8]
  | .movMB => [0x70#8]
  | .movMC => [0x71#8]
  | .movMD => [0x72#8]
  | .movME => [0x73#8]
  | .movMH => [0x74#8]
  | .movML => [0x75#8]
  | .unassigned76 => [0x76#8]
  | .movMA => [0x77#8]
  | .movAB => [0x78#8]
  | .movAC => [0x79#8]
  | .movAD => [0x7A#8]
  | .movAE => [0x7B#8]
  | .movAH => [0x7C#8]
  | .movAL => [0x7D#8]
  | .movAM => [0x7E#8]
  | .movAA => [0x7F#8]
  | .addB => [0x80#8]
  | .addC => [0x81#8]
  | .addD => [0x82#8]
  | .addE => [0x83#8]
  | .addH => [0x84#8]
  | .addL => [0x85#8]
  | .addM => [0x86#8]
  | .addA => [0x87#8]
  | .adcB => [0x88#8]
  | .adcC => [0x89#8]
  | .adcD => [0x8A#8]
  | .adcE => [0x8B#8]
  | .adcH => [0x8C#8]
  | .adcL => [0x8D#8]
  | .adcM => [0x8E#8]
  | .adcA => [0x8F#8]
  | .subB => [0x90#8]
  | .subC => [0x91#8]
  | .subD => [0x92#8]
  | .subE => [0x93#8]
  | .subH => [0x94#8]
  | .subL => [0x95#8]
  | .subM => [0x96#8]
  | .subA => [0x97#8]
  | .sbbB => [0x98#8]
  | .sbbC => [0x99#8]
  | .sbbD => [0x9A#8]
  | .sbbE => [0x9B#8]
  | .sbbH => [0x9C#8]
  | .sbbL => [0x9D#8]
  | .sbbM => [0x9E#8]
  | .sbbA => [0x9F#8]
  | .anaB => [0xA0#8]
  | .anaC => [0xA1#8]
  | .anaD => [0xA2#8]
  | .anaE => [0xA3#8]
  | .anaH => [0xA4#8]
  | .anaL => [0xA5#8]
  | .anaM => [0xA6#8]
  | .anaA => [0xA7#8]
  | .xraB => [0xA8#8]
  | .xraC => [0xA9#8]
  | .xraD => [0xAA#8]
  | .xraE => [0xAB#8]
  | .xraH => [0xAC#8]
  | .xraL => [0xAD#8]
  | .xraM => [0xAE#8]
  | .xraA => [0xAF#8]
  | .oraB => [0xB0#8]
  | .oraC => [0xB1#8]
  | .oraD => [0xB2#8]
  | .oraE => [0xB3#8]
  | .oraH => [0xB4#8]
  | .oraL => [0xB5#8]
  | .oraM => [0xB6#8]
  | .oraA => [0xB7#8]
  | .cmpB => [0xB8#8]
  | .cmpC => [0xB9#8]
  | .cmpD => [0xBA#8]
  | .cmpE => [0xBB#8]
  | .cmpH => [0xBC#8]
  | .cmpL => [0xBD#8]
  | .cmpM => [0xBE#8]
  | .cmpA => [0xBF#8]
  | .rnz => [0xC0#8]
  | .popB => [0xC1#8]
  | .jnz v => [0xC2#8, lo8 v, hi8 v]
  | .jmp v => [0xC3#8, lo8 v, hi8 v]
  | .cnz v => [0xC4#8, lo8 v, hi8 v]
  | .pushB => [0xC5#8]
  | .adi d => [0xC6#8, d]
  | .rst0 => [0xC7#8]
  | .rz => [0xC8#8]
  | .ret => [0xC9#8]
  | .jz v => [0xCA#8, lo8 v, hi8 v]
  | .jmpCB v => [0xCB#8, lo8 v, hi8 v]
  | .cz v => [0xCC#8, lo8 v, hi8 v]
  | .call v => [0xCD#8, lo8 v, hi8 v]
  | .aci d => [0xCE#8, d]
  | .rst1 => [0xCF#8]
  | .rnc => [0xD0#8]
  | .popD => [0xD1#8]
  | .jnc v => [0xD2#8, lo8 v, hi8 v]
  | .outp d => [0xD3#8, d]
  | .cnc v => [0xD4#8, lo8 v, hi8 v]
  | .pushD => [0xD5#8]
  | .sui d => [0xD6#8, d]
  | .rst2 => [0xD7#8]
  | .rc => [0xD8#8]
  | .retD9 => [0xD9#8]
  | .jc v => [0xDA#8, lo8 v, hi8 v]
  | .inp d => [0xDB#8, d]
  | .cc v => [0xDC#8, lo8 v, hi8 v]
  | .callDD v => [0xDD#8, lo8 v, hi8 v]
  | .sbi d => [0xDE#8, d]
  | .rst3 => [0xDF#8]
  | .rpo => [0xE0#8]
  | .popH => [0xE1#8]
  | .jpo v => [0xE2#8, lo8 v, hi8 v]
  | .xthl => [0xE3#8]
  | .cpo v => [0xE4#8, lo8 v, hi8 v]
  | .pushH => [0xE5#8]
  | .ani d => [0xE6#8, d]
  | .rst4 => [0xE7#8]
  | .rpe => [0xE8#8]
  | .pchl => [0xE9#8]
  | .jpe v => [0xEA#8, lo8 v, hi8 v]
  | .xchg => [0xEB#8]
  | .cpe v => [0xEC#8, lo8 v, hi8 v]
  | .callED v => [0xED#8, lo8 v, hi8 v]
  | .xri d => [0xEE#8, d]
  | .rst5 => [0xEF#8]
  | .rp => [0xF0#8]
  | .popPSW => [0xF1#8]
  | .jp v => [0xF2#8, lo8 v, hi8 v]
  | .di => [0xF3#8]
  | .cp v => [0xF4#8, lo8 v, hi8 v]
  | .pushPSW => [0xF5#8]
  | .ori d => [0xF6#8, d]
  | .rst6 => [0xF7#8]
  | .rm => [0xF8#8]
  | .sphl => [0xF9#8]
  | .jm v => [0xFA#8, lo8 v, hi8 v]
  | .ei => [0xFB#8]
  | .cm v => [0xFC#8, lo8 v, hi8 v]
  | .callFD v => [0xFD#8, lo8 v, hi8 v]
  | .cpi d => [0xFE#8, d]
  | .rst7 => [0xFF#8]

/-- The opcode byte of an instruction (R90). -/
def Instr.opcode (i : Instr) : Byte := (encode i).headD 0#8

end Sys2Proof
end

