-- ==== Sys2Proof/Machine/Flags.lean ====
section
/-!
DEFINITION. The flag byte and every flag computation (10_state.md R30 to R36; 41_arithmetic.md R150 to R176;
42_logical.md R190 to R206). Each computation takes its operands and the flag byte on entry and answers the result and
the flag byte after, so that flags are "always computed from the initial operand and the final result" (R34).
-/

namespace Sys2Proof.Machine

/-- The named bits of the flag byte (R30). -/
inductive Flag where
  | s | z | ie | ac | p | cy
  deriving DecidableEq, Repr

/-- The place of a flag in the flag byte (R30). -/
def Flag.bit : Flag → Nat
  | .s => 7
  | .z => 6
  | .ie => 5
  | .ac => 4
  | .p => 2
  | .cy => 0

/-- Whether flag `g` is 1 in the flag byte `f`. -/
def getFlag (f : Byte) (g : Flag) : Bool := f.getLsbD g.bit

/-- The flag byte with flag `g` set to `v` and its other seven bits kept (R33). -/
def setFlag (f : Byte) (g : Flag) (v : Bool) : Byte :=
  if v then f ||| BitVec.twoPow 8 g.bit else f &&& ~~~(BitVec.twoPow 8 g.bit)

/-- How many bits of a byte are 1. -/
def popCount (v : Byte) : Nat :=
  ((List.range 8).filter fun i => v.getLsbD i).length

/-- `parity(v)`: whether the number of 1 bits is even (R35). -/
def parity (v : Byte) : Bool := popCount v % 2 == 0

/-- `SZP(v)`: S, Z and P from a result (R36). -/
def szp (v f : Byte) : Byte :=
  setFlag (setFlag (setFlag f .s (v.getLsbD 7)) .z (v == 0#8)) .p (parity v)

/-- What an operation leaves: a result and the flag byte after it. -/
structure AluResult where
  value : Byte
  flags : Byte
  deriving DecidableEq, Repr

/-- `ADDOP(a, b, cin)` (R151). -/
def addOp (a b : Byte) (cin : Bool) (f : Byte) : AluResult :=
  let t := a.toNat + b.toNat + cin.toNat
  let f1 := setFlag f .cy (decide (t > 0xFF))
  let f2 := setFlag f1 .ac (decide (a.toNat % 16 + b.toNat % 16 + cin.toNat > 0x0F))
  let r := BitVec.ofNat 8 t
  { value := r, flags := szp r f2 }

/-- `SUBOP(a, b, bin)` (R152): CY is the borrow, AC the carry out of bit 3 of `a + ~b + (1 - bin)`. -/
def subOp (a b : Byte) (bin : Bool) (f : Byte) : AluResult :=
  let t : Int := (a.toNat : Int) - b.toNat - bin.toNat
  let f1 := setFlag f .cy (decide (t < 0))
  let f2 := setFlag f1 .ac (decide (a.toNat % 16 + (~~~b).toNat % 16 + (1 - bin.toNat) > 0x0F))
  let r := BitVec.ofInt 8 t
  { value := r, flags := szp r f2 }

/-- The increment of INR (R168); CY is kept. -/
def incOp (v f : Byte) : AluResult :=
  let q := v + 1#8
  { value := q, flags := szp q (setFlag f .ac (decide (v.toNat % 16 = 0x0F))) }

/-- The decrement of DCR (R170); CY is kept. -/
def decOp (v f : Byte) : AluResult :=
  let q := v - 1#8
  { value := q, flags := szp q (setFlag f .ac (decide (v.toNat % 16 ≠ 0x00))) }

/-- AND (R191): CY is cleared, AC is bit 3 of the OR of the operands. -/
def andOp (a b f : Byte) : AluResult :=
  let q := a &&& b
  { value := q, flags := szp q (setFlag (setFlag f .cy false) .ac ((a ||| b).getLsbD 3)) }

/-- Exclusive OR (R194): CY and AC are cleared. -/
def xorOp (a b f : Byte) : AluResult :=
  let q := a ^^^ b
  { value := q, flags := szp q (setFlag (setFlag f .cy false) .ac false) }

/-- OR (R197): CY and AC are cleared. -/
def orOp (a b f : Byte) : AluResult :=
  let q := a ||| b
  { value := q, flags := szp q (setFlag (setFlag f .cy false) .ac false) }

/-- DAA (R175), on an intermediate wider than 8 bits. -/
def daaOp (a f : Byte) : AluResult :=
  let t0 := a.toNat
  let low := decide (t0 % 16 > 9) || getFlag f .ac
  let f1 := if low then setFlag f .ac (decide (t0 % 16 + 6 > 0x0F)) else f
  let t1 := if low then t0 + 0x06 else t0
  let high := decide (t1 / 16 > 9) || getFlag f .cy
  let f2 := if high then setFlag f1 .cy true else f1
  let t2 := if high then t1 + 0x60 else t1
  let r := BitVec.ofNat 8 t2
  { value := r, flags := szp r f2 }

/-- RLC (R201): bit 7 goes to bit 0 and to CY. -/
def rlcOp (a f : Byte) : AluResult :=
  let b7 := a.getLsbD 7
  { value := a <<< 1 ||| (BitVec.ofBool b7).setWidth 8, flags := setFlag f .cy b7 }

/-- RRC (R202): bit 0 goes to bit 7 and to CY. -/
def rrcOp (a f : Byte) : AluResult :=
  let b0 := a.getLsbD 0
  { value := a >>> 1 ||| (BitVec.ofBool b0).setWidth 8 <<< 7, flags := setFlag f .cy b0 }

/-- RAL (R203): CY goes to bit 0, bit 7 to CY. -/
def ralOp (a f : Byte) : AluResult :=
  let c := getFlag f .cy
  { value := a <<< 1 ||| (BitVec.ofBool c).setWidth 8, flags := setFlag f .cy (a.getLsbD 7) }

/-- RAR (R204): CY goes to bit 7, bit 0 to CY. -/
def rarOp (a f : Byte) : AluResult :=
  let c := getFlag f .cy
  { value := a >>> 1 ||| (BitVec.ofBool c).setWidth 8 <<< 7, flags := setFlag f .cy (a.getLsbD 0) }

/-- The carry of DAD (R174). -/
def dadCarry (hl v : Word) : Bool := decide (hl.toNat + v.toNat > 0xFFFF)

end Sys2Proof.Machine
end

