-- ==== Sys2Proof/Config.lean ====
section
/-!
DEFINITION. The launch parameters the spec exposes (00_scope.md R8; 92_eei_decisions.md, last paragraph), the
constraints on them, and the one free value of the model: the switch bytes a host supplies.
Their default values are in Machine/Params.lean.
-/

namespace Sys2Proof

/-- The parameters of a launch (R8). They are fixed for a run. `END_ADDR` is an argument of the definition of the end
of a run instead (Safety.lean, R404). -/
structure Config where
  /-- `UNASSIGNED_OPCODES`: opcode bytes with no assigned instruction (R102). -/
  unassignedOpcodes : List Byte
  /-- `SP_RESET` (R49). -/
  spReset : Word
  /-- `RESET_REG`: the reset value of A, B, C, D, E, H, L (R49). -/
  resetReg : Byte
  /-- `VEC_MID` (R344). -/
  vecMid : Word
  /-- `VEC_END` (R344). -/
  vecEnd : Word
  /-- `CYCLE_BUDGET` (R338, R339). -/
  cycleBudget : Nat
  /-- `CYC_COST`: for each opcode byte, in order, the cost when the condition is false and when it is true (R110). -/
  cycCost : List (Nat × Nat)
  /-- `VRAM_BASE` (R61). -/
  vramBase : Word
  /-- `VRAM_SIZE` (R61). -/
  vramSize : Nat
  /-- `PORT_SW1`, an input port (R350). -/
  portSw1 : Byte
  /-- `PORT_SW2`, an input port (R350). -/
  portSw2 : Byte
  /-- `PORT_SHIFT_READ`, an input port (R350). -/
  portShiftRead : Byte
  /-- `PORT_SHIFT_AMT`, an output port (R351). -/
  portShiftAmt : Byte
  /-- `PORT_SHIFT_DATA`, an output port (R351). -/
  portShiftData : Byte
  /-- `PORT_ACK`, an output port (R351). -/
  portAck : Byte
  deriving DecidableEq, Repr

/-- FREE VALUE: the pair (SW1, SW2) the host supplies at the n-th END dispatch when the launch lists none ("any two
8-bit values", R343; U6 of 93_implementation_defined.md). It has no body, so nothing can be proved of its value. -/
opaque Config.freeSwitches : Nat → Byte × Byte

end Sys2Proof
end

