-- ==== Sys2Proof/Machine/Params.lean ====
section
/-!
DEFINITION. The default values of the launch parameters (00_scope.md R8) and the cycle-cost table (30_encoding.md R110).
They are the spec's own choices (92_eei_decisions.md D2 to D4, D7 to D10, D13, D18, D19; log 3).
-/

namespace Sys2Proof.Machine

/-- Row 0x of the cost table (R110). -/
def costRow0 : List (Nat × Nat) := [
  (4, 4), (10, 10), (7, 7), (5, 5), (5, 5), (5, 5), (7, 7), (4, 4),
  (4, 4), (10, 10), (7, 7), (5, 5), (5, 5), (5, 5), (7, 7), (4, 4)]

/-- Row 1x of the cost table (R110). -/
def costRow1 : List (Nat × Nat) := [
  (4, 4), (10, 10), (7, 7), (5, 5), (5, 5), (5, 5), (7, 7), (4, 4),
  (4, 4), (10, 10), (7, 7), (5, 5), (5, 5), (5, 5), (7, 7), (4, 4)]

/-- Row 2x of the cost table (R110). -/
def costRow2 : List (Nat × Nat) := [
  (4, 4), (10, 10), (16, 16), (5, 5), (5, 5), (5, 5), (7, 7), (4, 4),
  (4, 4), (10, 10), (16, 16), (5, 5), (5, 5), (5, 5), (7, 7), (4, 4)]

/-- Row 3x of the cost table (R110). -/
def costRow3 : List (Nat × Nat) := [
  (4, 4), (10, 10), (13, 13), (5, 5), (10, 10), (10, 10), (10, 10), (4, 4),
  (4, 4), (10, 10), (13, 13), (5, 5), (5, 5), (5, 5), (7, 7), (4, 4)]

/-- Row 4x of the cost table (R110). -/
def costRow4 : List (Nat × Nat) := [
  (5, 5), (5, 5), (5, 5), (5, 5), (5, 5), (5, 5), (7, 7), (5, 5),
  (5, 5), (5, 5), (5, 5), (5, 5), (5, 5), (5, 5), (7, 7), (5, 5)]

/-- Row 5x of the cost table (R110). -/
def costRow5 : List (Nat × Nat) := [
  (5, 5), (5, 5), (5, 5), (5, 5), (5, 5), (5, 5), (7, 7), (5, 5),
  (5, 5), (5, 5), (5, 5), (5, 5), (5, 5), (5, 5), (7, 7), (5, 5)]

/-- Row 6x of the cost table (R110). -/
def costRow6 : List (Nat × Nat) := [
  (5, 5), (5, 5), (5, 5), (5, 5), (5, 5), (5, 5), (7, 7), (5, 5),
  (5, 5), (5, 5), (5, 5), (5, 5), (5, 5), (5, 5), (7, 7), (5, 5)]

/-- Row 7x of the cost table (R110). -/
def costRow7 : List (Nat × Nat) := [
  (7, 7), (7, 7), (7, 7), (7, 7), (7, 7), (7, 7), (0, 0), (7, 7),
  (5, 5), (5, 5), (5, 5), (5, 5), (5, 5), (5, 5), (7, 7), (5, 5)]

/-- Row 8x of the cost table (R110). -/
def costRow8 : List (Nat × Nat) := [
  (4, 4), (4, 4), (4, 4), (4, 4), (4, 4), (4, 4), (7, 7), (4, 4),
  (4, 4), (4, 4), (4, 4), (4, 4), (4, 4), (4, 4), (7, 7), (4, 4)]

/-- Row 9x of the cost table (R110). -/
def costRow9 : List (Nat × Nat) := [
  (4, 4), (4, 4), (4, 4), (4, 4), (4, 4), (4, 4), (7, 7), (4, 4),
  (4, 4), (4, 4), (4, 4), (4, 4), (4, 4), (4, 4), (7, 7), (4, 4)]

/-- Row Ax of the cost table (R110). -/
def costRowA : List (Nat × Nat) := [
  (4, 4), (4, 4), (4, 4), (4, 4), (4, 4), (4, 4), (7, 7), (4, 4),
  (4, 4), (4, 4), (4, 4), (4, 4), (4, 4), (4, 4), (7, 7), (4, 4)]

/-- Row Bx of the cost table (R110). -/
def costRowB : List (Nat × Nat) := [
  (4, 4), (4, 4), (4, 4), (4, 4), (4, 4), (4, 4), (7, 7), (4, 4),
  (4, 4), (4, 4), (4, 4), (4, 4), (4, 4), (4, 4), (7, 7), (4, 4)]

/-- Row Cx of the cost table (R110). -/
def costRowC : List (Nat × Nat) := [
  (5, 11), (10, 10), (10, 10), (10, 10), (11, 17), (11, 11), (7, 7), (11, 11),
  (5, 11), (10, 10), (10, 10), (10, 10), (11, 17), (17, 17), (7, 7), (11, 11)]

/-- Row Dx of the cost table (R110). -/
def costRowD : List (Nat × Nat) := [
  (5, 11), (10, 10), (10, 10), (10, 10), (11, 17), (11, 11), (7, 7), (11, 11),
  (5, 11), (10, 10), (10, 10), (10, 10), (11, 17), (17, 17), (7, 7), (11, 11)]

/-- Row Ex of the cost table (R110). -/
def costRowE : List (Nat × Nat) := [
  (5, 11), (10, 10), (10, 10), (18, 18), (11, 17), (11, 11), (7, 7), (11, 11),
  (5, 11), (5, 5), (10, 10), (4, 4), (11, 17), (17, 17), (7, 7), (11, 11)]

/-- Row Fx of the cost table (R110). -/
def costRowF : List (Nat × Nat) := [
  (5, 11), (10, 10), (10, 10), (4, 4), (11, 17), (11, 11), (7, 7), (11, 11),
  (5, 11), (5, 5), (10, 10), (4, 4), (11, 17), (17, 17), (7, 7), (11, 11)]

/-- The default `CYC_COST`: for each opcode byte the cost with a false and with a true condition (R110). The byte
0x76 has none in the table and stands as (0, 0), which no completed instruction charges. -/
def defaultCycCost : List (Nat × Nat) :=
  costRow0 ++ costRow1 ++ costRow2 ++ costRow3 ++ costRow4 ++ costRow5 ++ costRow6 ++ costRow7 ++
  costRow8 ++ costRow9 ++ costRowA ++ costRowB ++ costRowC ++ costRowD ++ costRowE ++ costRowF

/-- The defaults of R8. -/
def defaultConfig : Config where
  unassignedOpcodes := [0x76#8]
  spReset := 0x2400#16
  resetReg := 0x00#8
  vecMid := 0x0008#16
  vecEnd := 0x0010#16
  cycleBudget := 16667
  cycCost := defaultCycCost
  vramBase := 0x2400#16
  vramSize := 0x1C00
  portSw1 := 1#8
  portSw2 := 2#8
  portShiftRead := 3#8
  portShiftAmt := 2#8
  portShiftData := 4#8
  portAck := 6#8

end Sys2Proof.Machine
end

