-- ==== Sys2Proof/Machine/State.lean ====
section
/-!
DEFINITION. The state of the machine (10_state.md), how a step can stop, and the state after reset (10_state.md R49,
70_reset_and_hazards.md R380).
-/

namespace Sys2Proof.Machine

/-- Memory: the bytes that differ from what an unlisted address reads as, by rising address (20_memory.md R60; log 6). -/
abbrev Memory := List Host.Cell

/-- The interrupt phases `MID` and `END` (60_exceptions.md R340). -/
inductive Phase where
  | midPhase | endPhase
  deriving DecidableEq, Repr

/-- The fatal faults of the core, the values of the latch `FAULT` (10_state.md R44). -/
inductive FatalFault where
  /-- `DecodeFault(pc, op)` (60_exceptions.md R330). -/
  | decodeFault (pc : Word) (op : Byte)
  /-- `OutOfRange(addr)` (60_exceptions.md R331). -/
  | outOfRange (addr : Word)
  deriving DecidableEq, Repr

/-- Why a step faults. -/
inductive Fault where
  /-- Raised by `step` alone, in a state whose `FAULT` latch is set: "the core takes no further step" (R333). Safe:
  the hardware does not go on either. -/
  | stopped (f : FatalFault)
  deriving DecidableEq, Repr

/-- Why a step is refused. -/
inductive Refusal where
  /-- Raised by `exec` for an instruction with no meaning yet; no arm raises it in this model. Safe. -/
  | notModelled (mnemonic : String)
  /-- Raised by `step` alone, when the launch parameters break a constraint of the spec (U16, U17 of
  93_implementation_defined.md say `refuse`). Safe. -/
  | badParameters
  /-- Raised by the meaning of byte 0x76 alone, when the launch removes 0x76 from `UNASSIGNED_OPCODES`: the spec gives
  no HLT semantics (R313; U15 of 93_implementation_defined.md says `refuse`). Safe. -/
  | hltUnspecified
  deriving DecidableEq, Repr

/-- The state (10_state.md, opening paragraph), then four fields of the model's own: the launch parameters (log 2), the
host's switch pairs still to come and the number already drawn (log 7), the frames emitted (log 8). -/
structure State where
  /-- A, the accumulator (R20). -/
  a : Byte
  /-- B (R20). -/
  b : Byte
  /-- C (R20). -/
  c : Byte
  /-- D (R20). -/
  d : Byte
  /-- E (R20). -/
  e : Byte
  /-- H (R20). -/
  h : Byte
  /-- L (R20). -/
  l : Byte
  /-- F, the flag byte (R30 to R32). -/
  f : Byte
  /-- SP (R26). -/
  sp : Word
  /-- PC (R27). -/
  pc : Word
  /-- The 65,536 bytes of memory (R47, R60). -/
  mem : Memory
  /-- `SW1` (R46). -/
  sw1 : Byte
  /-- `SW2` (R46). -/
  sw2 : Byte
  /-- `SHIFT_HI` (R46). -/
  shiftHi : Byte
  /-- `SHIFT_LO` (R46). -/
  shiftLo : Byte
  /-- `SHIFT_AMT` (R46). -/
  shiftAmt : BitVec 3
  /-- `ACK` (R46). -/
  ack : Byte
  /-- `CYC` (R41). -/
  cyc : Nat
  /-- `LAST` (R42). -/
  last : Phase
  /-- `ICOUNT` (R43). -/
  icount : Nat
  /-- `FAULT` (R44). -/
  fault : Option FatalFault
  /-- The launch parameters (00_scope.md R8); no step writes them. -/
  config : Config
  /-- The host's switch pairs (SW1, SW2) still to be consumed, next first (R343). -/
  inputs : List (Byte × Byte)
  /-- How many pairs the END dispatches have consumed; it indexes the free value (R343, R405). -/
  draws : Nat
  /-- The frames handed to the Display, newest first (R343). -/
  frames : List (List Byte)
  deriving DecidableEq, Repr

/-- The state after reset of a launch with parameters `c`, before any image is loaded (R49, R380). -/
def State.resetWith (c : Config) : State where
  a := c.resetReg
  b := c.resetReg
  c := c.resetReg
  d := c.resetReg
  e := c.resetReg
  h := c.resetReg
  l := c.resetReg
  f := 0x00#8
  sp := c.spReset
  pc := 0x0000#16
  mem := []
  sw1 := 0#8
  sw2 := 0#8
  shiftHi := 0#8
  shiftLo := 0#8
  shiftAmt := 0#3
  ack := 0#8
  cyc := 0
  last := .midPhase
  icount := 0
  fault := none
  config := c
  inputs := []
  draws := 0
  frames := []

/-- The state after reset, with the default parameters (R49, R380). -/
def State.reset : State := State.resetWith defaultConfig

end Sys2Proof.Machine
end

