-- ==== Sys2Proof/Machine/Ops.lean ====
section
/-!
DEFINITION. The shared operations: memory, the stack, the end of an instruction, raising a fatal fault, and the
interrupt: its check, its dispatch and the END side effect. An operation that can raise answers an `Except FatalFault`;
nothing is written when it raises (60_exceptions.md R333).
-/

namespace Sys2Proof.Machine

/-- The outcome of a step or of an instruction. -/
abbrev Out := Host.Outcome State Fault Refusal

/-! ### Memory (20_memory.md) -/

/-- What an address that no entry lists reads as (R49 leaves it free; DESIGN CHOICE, unsafe, log 6). -/
def Memory.unlisted : Byte := 0x00#8

/-- The byte listed for address `n`, or the unlisted value. -/
def Memory.lookup : Memory → Nat → Byte
  | [], _ => Memory.unlisted
  | (k, v) :: rest, n => if k = n then v else Memory.lookup rest n

/-- The entries at other addresses than `n`. -/
def Memory.erase : Memory → Nat → Memory
  | [], _ => []
  | (k, v) :: rest, n => if k = n then Memory.erase rest n else (k, v) :: Memory.erase rest n

/-- Put an entry before the first entry of a higher address. -/
def Memory.insert : Memory → Nat → Byte → Memory
  | [], n, v => [(n, v)]
  | (k, w) :: rest, n, v => if n < k then (n, v) :: (k, w) :: rest else (k, w) :: Memory.insert rest n v

/-- `MemRead(addr, 1)` (R62). -/
def Memory.read (m : Memory) (addr : Word) : Byte := Memory.lookup m addr.toNat

/-- `MemWrite(addr, 1, v)` (R62), keeping the canonical form. -/
def Memory.write (m : Memory) (addr : Word) (v : Byte) : Memory :=
  if v = Memory.unlisted then Memory.erase m addr.toNat
  else Memory.insert (Memory.erase m addr.toNat) addr.toNat v

/-- The entries are at rising addresses from `lo` on, all below 2^16, none equal to the unlisted value. -/
def Memory.wfFrom : Nat → Memory → Bool
  | _, [] => true
  | lo, (k, v) :: rest => decide (lo ≤ k) && decide (k < 65536) && (v != Memory.unlisted) && Memory.wfFrom (k + 1) rest

/-- The canonical form: equal memories are equal lists. -/
def Memory.wf (m : Memory) : Bool := Memory.wfFrom 0 m

/-- Store bytes at consecutive addresses, "a contiguous byte sequence" from an offset (R390). The spec does not say what a
sequence that runs past 0xFFFF does; it goes on at 0x0000 (DESIGN CHOICE, log 25). -/
def Memory.load (m : Memory) (addr : Word) : List Byte → Memory
  | [] => m
  | v :: rest => Memory.load (Memory.write m addr v) (addr + 1#16) rest

/-- `MemRead(addr, 2)` (R63): low byte at the lower address; 0xFFFF is out of range (R65). -/
def memRead16 (m : Memory) (addr : Word) : Except FatalFault Word :=
  if addr = 0xFFFF#16 then .error (.outOfRange 0xFFFF#16)
  else .ok (word (m.read (addr + 1#16)) (m.read addr))

/-- `MemWrite(addr, 2, v)` (R64): high byte first, at the higher address; 0xFFFF is out of range (R65). -/
def memWrite16 (m : Memory) (addr v : Word) : Except FatalFault Memory :=
  if addr = 0xFFFF#16 then .error (.outOfRange 0xFFFF#16)
  else .ok ((m.write (addr + 1#16) (hi8 v)).write addr (lo8 v))

/-! ### The stack (20_memory.md R66, R67) -/

/-- `Push16(v)` (R66). -/
def push16 (v : Word) (s : State) : Except FatalFault State :=
  (memWrite16 s.mem (s.sp - 2#16) v).map fun m => { s with sp := s.sp - 2#16, mem := m }

/-- `Pop16()` (R67): the word popped and the state after. -/
def pop16 (s : State) : Except FatalFault (Word × State) :=
  (memRead16 s.mem s.sp).map fun w => (w, { s with sp := s.sp + 2#16 })

/-- Pop the program counter: RET, which is also the return from an interrupt handler; it restores nothing else
(44_call_return.md R250, 60_exceptions.md R347). -/
def popPc (s : State) : Except FatalFault State :=
  (pop16 s).map fun r => { r.2 with pc := r.1 }

/-! ### The end of an instruction -/

/-- The cost of an opcode byte, given whether its condition held (30_encoding.md R110). -/
def cycleCost (c : Config) (op : Byte) (taken : Bool) : Nat :=
  let p := c.cycCost.getD op.toNat (0, 0)
  if taken then p.2 else p.1

/-- "Advance cycle counter", and count the instruction (60_exceptions.md R337). -/
def charge (op : Byte) (taken : Bool) (s : State) : State :=
  { s with cyc := s.cyc + cycleCost s.config op taken, icount := s.icount + 1 }

/-- `PC <- next`, the address after an instruction of `len` bytes, modulo 2^16 (30_encoding.md R92). -/
def advance (len : Word) (s : State) : State := { s with pc := s.pc + len }

/-- The end of an instruction that transfers no control: `PC <- next`, then its cost (10_state.md R28). -/
def complete (op : Byte) (len : Word) (s : State) : State := charge op false (advance len s)

/-- The fetch of `imm16`: it raises `OutOfRange` when `pc0 = 0xFFFE` (30_encoding.md R94, 20_memory.md R65; log 10). -/
def takeImm16 (s : State) : Except FatalFault State :=
  if s.pc = 0xFFFE#16 then .error (.outOfRange 0xFFFF#16) else .ok s

/-! ### Fatal faults (60_exceptions.md R330 to R333) -/

/-- Raise a fatal fault: `FAULT` is latched and nothing else is written, so PC stays (R333; log 1). -/
def raise (f : FatalFault) (s : State) : State := { s with fault := some f }

/-- The outcome of an instruction that started in `s`: its next state, or the fault it raised, precise in `s`. -/
def conclude (s : State) : Except FatalFault State → Out
  | .ok t => .next t
  | .error f => .next (raise f s)

/-! ### The interrupt (60_exceptions.md R338 to R345) -/

/-- `F.IE` (10_state.md R32). -/
def State.ie (s : State) : Bool := getFlag s.f .ie

/-- The pair of bytes the host supplies at the next END dispatch: the launch's list, then the free value (R343). -/
def nextSwitches (s : State) : Byte × Byte :=
  match s.inputs with
  | p :: _ => p
  | [] => Config.freeSwitches s.draws

/-- The `VRAM_SIZE` bytes from `VRAM_BASE` as they stand (R343). -/
def videoFrame (s : State) : List Byte :=
  (List.range s.config.vramSize).map fun i => s.mem.read (s.config.vramBase + BitVec.ofNat 16 i)

/-- `EndSideEffect` (R343): sample the switch bytes, then hand the frame to the Display. -/
def endSideEffect (s : State) : State :=
  { s with
    sw1 := (nextSwitches s).1
    sw2 := (nextSwitches s).2
    inputs := s.inputs.tail
    draws := s.draws + 1
    frames := videoFrame s :: s.frames }

/-- The other phase: "always dispatches the other phase next" (R340). -/
def Phase.other : Phase → Phase
  | .midPhase => .endPhase
  | .endPhase => .midPhase

/-- The vector of a phase (R344). -/
def vector (c : Config) : Phase → Word
  | .midPhase => c.vecMid
  | .endPhase => c.vecEnd

/-- TAKING AN INTERRUPT, `Dispatch` (R340): push PC, latch the phase, load its vector; on END the side effect. -/
def dispatch (s : State) : Except FatalFault State :=
  (push16 s.pc s).map fun t =>
    let u := { t with last := s.last.other, pc := vector s.config s.last.other }
    match s.last.other with
    | .midPhase => u
    | .endPhase => endSideEffect u

/-- `InterruptCheck` (R338): when `CYC` exceeds the budget, subtract it once and dispatch if IE is set. A dispatch whose
push raises leaves nothing of the check written (R333). -/
def interruptCheck (s : State) : Except FatalFault State :=
  if s.cyc > s.config.cycleBudget then
    let t := { s with cyc := s.cyc - s.config.cycleBudget }
    if s.ie then dispatch t else .ok t
  else .ok s

/-! ### Fetch and decode (30_encoding.md R101) -/

/-- Read the opcode byte at PC, raise `DecodeFault` if it is unassigned, else decode it with the two bytes after it
(R92, R101). Reading has no side effect (20_memory.md R71), so the bytes a shorter format does not ask for are read
and ignored; the out-of-range case of `imm16` is raised by the instruction (`takeImm16`). -/
def fetch (s : State) : Except FatalFault Instr :=
  let op := s.mem.read s.pc
  if s.config.unassignedOpcodes.contains op then .error (.decodeFault s.pc op)
  else .ok (decodeBytes op (s.mem.read (s.pc + 1#16)) (s.mem.read (s.pc + 2#16)))

/-- Where the next step fetches its opcode byte: PC, or the vector when its interrupt check will dispatch. -/
def fetchAddress (s : State) : Word :=
  match interruptCheck s with
  | .ok t => t.pc
  | .error _ => s.pc

/-- Store the three bytes of `w`, its bits at `nbits` and above zero, where the next step fetches. -/
def storeAtFetch (s : State) (nbits w : Nat) : State :=
  let bits := w % 2 ^ nbits
  let bytes := [BitVec.ofNat 8 bits, BitVec.ofNat 8 (bits / 256), BitVec.ofNat 8 (bits / 65536)]
  { s with mem := s.mem.load (fetchAddress s) bytes }

end Sys2Proof.Machine
end

