-- ==== Sys2Proof/Machine/Operands.lean ====
section
/-!
DEFINITION. Every operand form (30_encoding.md R95): 8-bit operands by selector (10_state.md R21, R22), pairs in the SP
class and in the PSW class (R23 to R25), and the conditions (R38).
-/

namespace Sys2Proof.Machine

/-- The pair BC (R23). -/
def State.bc (s : State) : Word := word s.b s.c

/-- The pair DE (R23). -/
def State.de (s : State) : Word := word s.d s.e

/-- The pair HL (R23). -/
def State.hl (s : State) : Word := word s.h s.l

/-- The pseudo-pair PSW: A high, F low (R24). -/
def State.psw (s : State) : Word := word s.a s.f

/-- `r[i]` (R22). -/
def readSel (i : Sel) (s : State) : Byte :=
  match i with
  | .b => s.b
  | .c => s.c
  | .d => s.d
  | .e => s.e
  | .h => s.h
  | .l => s.l
  | .m => s.mem.read s.hl
  | .a => s.a

/-- `r[i] <- v` (R22). -/
def writeSel (i : Sel) (v : Byte) (s : State) : State :=
  match i with
  | .b => { s with b := v }
  | .c => { s with c := v }
  | .d => { s with d := v }
  | .e => { s with e := v }
  | .h => { s with h := v }
  | .l => { s with l := v }
  | .m => { s with mem := s.mem.write s.hl v }
  | .a => { s with a := v }

/-- `rp[i]` in the SP class (R25). -/
def readPair (i : Pair) (s : State) : Word :=
  match i with
  | .bc => s.bc
  | .de => s.de
  | .hl => s.hl
  | .sp => s.sp

/-- `rp[i] <- v` in the SP class: the high byte to the first register, the low byte to the second (R23, R25). -/
def writePair (i : Pair) (v : Word) (s : State) : State :=
  match i with
  | .bc => { s with b := hi8 v, c := lo8 v }
  | .de => { s with d := hi8 v, e := lo8 v }
  | .hl => { s with h := hi8 v, l := lo8 v }
  | .sp => { s with sp := v }

/-- `rp[i]` in the PSW class (R25). -/
def readStackPair (i : StackPair) (s : State) : Word :=
  match i with
  | .bc => s.bc
  | .de => s.de
  | .hl => s.hl
  | .psw => s.psw

/-- `rp[i] <- v` in the PSW class; PSW takes all eight bits of F (R25, 45_stack.md R279). -/
def writeStackPair (i : StackPair) (v : Word) (s : State) : State :=
  match i with
  | .bc => { s with b := hi8 v, c := lo8 v }
  | .de => { s with d := hi8 v, e := lo8 v }
  | .hl => { s with h := hi8 v, l := lo8 v }
  | .psw => { s with a := hi8 v, f := lo8 v }

/-- `cond(cc)` (R38). -/
def condHolds (cc : Cond) (f : Byte) : Bool :=
  match cc with
  | .nz => !getFlag f .z
  | .z => getFlag f .z
  | .nc => !getFlag f .cy
  | .c => getFlag f .cy
  | .po => !getFlag f .p
  | .pe => getFlag f .p
  | .p => !getFlag f .s
  | .m => getFlag f .s

/-- Replace A and F by an operation's result (DAA, R175; rotates, 42_logical.md R201 to R204). -/
def onAcc (op : Byte) (g : Byte → Byte → AluResult) (s : State) : Out :=
  let r := g s.a s.f
  .next (complete op 1 { s with a := r.value, f := r.flags })

end Sys2Proof.Machine
end

