-- ==== Sys2Proof/Machine/Arithmetic.lean ====
section
/-!
DEFINITION. The arithmetic family (41_arithmetic.md R150 to R177).
-/

namespace Sys2Proof.Machine

/-! ### Shared operations -/

/-- ADD and ADI with operand `v` (R153, R154, R155). -/
def addTo (op : Byte) (len : Word) (v : Byte) (s : State) : Out :=
  let r := addOp s.a v false s.f
  .next (complete op len { s with a := r.value, f := r.flags })

/-- ADC and ACI with operand `v`, CY read before any flag is written (R156, R157, R158). -/
def adcTo (op : Byte) (len : Word) (v : Byte) (s : State) : Out :=
  let r := addOp s.a v (getFlag s.f .cy) s.f
  .next (complete op len { s with a := r.value, f := r.flags })

/-- SUB and SUI with operand `v` (R159, R160, R161). -/
def subFrom (op : Byte) (len : Word) (v : Byte) (s : State) : Out :=
  let r := subOp s.a v false s.f
  .next (complete op len { s with a := r.value, f := r.flags })

/-- SBB and SBI with operand `v`, CY read first (R162, R163, R164). -/
def sbbFrom (op : Byte) (len : Word) (v : Byte) (s : State) : Out :=
  let r := subOp s.a v (getFlag s.f .cy) s.f
  .next (complete op len { s with a := r.value, f := r.flags })

/-- CMP and CPI with operand `v`: the difference is discarded (R165, R166, R167). -/
def compare (op : Byte) (len : Word) (v : Byte) (s : State) : Out :=
  .next (complete op len { s with f := (subOp s.a v false s.f).flags })

/-- INR of an operand by selector (R168, R169). -/
def incSel (op : Byte) (i : Sel) (s : State) : Out :=
  let r := incOp (readSel i s) s.f
  .next (complete op 1#16 (writeSel i r.value { s with f := r.flags }))

/-- DCR of an operand by selector (R170, R171). -/
def decSel (op : Byte) (i : Sel) (s : State) : Out :=
  let r := decOp (readSel i s) s.f
  .next (complete op 1#16 (writeSel i r.value { s with f := r.flags }))

/-- INX and DCX: add `delta` to a pair, modulo 2^16 (R172, R173). -/
def stepPair (op : Byte) (i : Pair) (delta : Word) (s : State) : Out :=
  .next (complete op 1#16 (writePair i (readPair i s + delta) s))

/-- DAD (R174). -/
def addPair (op : Byte) (i : Pair) (s : State) : Out :=
  let v := readPair i s
  .next (complete op 1#16 (writePair .hl (s.hl + v) { s with f := setFlag s.f .cy (dadCarry s.hl v) }))

/-! ### Meanings, one per opcode byte -/

/-- 0x03 INX B (R172). -/
def execInxB (s : State) : Out := stepPair 0x03#8 .bc 1#16 s

/-- 0x04 INR B (R168). -/
def execInrB (s : State) : Out := incSel 0x04#8 .b s

/-- 0x05 DCR B (R170). -/
def execDcrB (s : State) : Out := decSel 0x05#8 .b s

/-- 0x09 DAD B (R174). -/
def execDadB (s : State) : Out := addPair 0x09#8 .bc s

/-- 0x0B DCX B (R173). -/
def execDcxB (s : State) : Out := stepPair 0x0B#8 .bc (-1#16) s

/-- 0x0C INR C (R168). -/
def execInrC (s : State) : Out := incSel 0x0C#8 .c s

/-- 0x0D DCR C (R170). -/
def execDcrC (s : State) : Out := decSel 0x0D#8 .c s

/-- 0x13 INX D (R172). -/
def execInxD (s : State) : Out := stepPair 0x13#8 .de 1#16 s

/-- 0x14 INR D (R168). -/
def execInrD (s : State) : Out := incSel 0x14#8 .d s

/-- 0x15 DCR D (R170). -/
def execDcrD (s : State) : Out := decSel 0x15#8 .d s

/-- 0x19 DAD D (R174). -/
def execDadD (s : State) : Out := addPair 0x19#8 .de s

/-- 0x1B DCX D (R173). -/
def execDcxD (s : State) : Out := stepPair 0x1B#8 .de (-1#16) s

/-- 0x1C INR E (R168). -/
def execInrE (s : State) : Out := incSel 0x1C#8 .e s

/-- 0x1D DCR E (R170). -/
def execDcrE (s : State) : Out := decSel 0x1D#8 .e s

/-- 0x23 INX H (R172). -/
def execInxH (s : State) : Out := stepPair 0x23#8 .hl 1#16 s

/-- 0x24 INR H (R168). -/
def execInrH (s : State) : Out := incSel 0x24#8 .h s

/-- 0x25 DCR H (R170). -/
def execDcrH (s : State) : Out := decSel 0x25#8 .h s

/-- 0x27 DAA (R175). -/
def execDaa (s : State) : Out := onAcc 0x27#8 daaOp s

/-- 0x29 DAD H (R174). -/
def execDadH (s : State) : Out := addPair 0x29#8 .hl s

/-- 0x2B DCX H (R173). -/
def execDcxH (s : State) : Out := stepPair 0x2B#8 .hl (-1#16) s

/-- 0x2C INR L (R168). -/
def execInrL (s : State) : Out := incSel 0x2C#8 .l s

/-- 0x2D DCR L (R170). -/
def execDcrL (s : State) : Out := decSel 0x2D#8 .l s

/-- 0x33 INX SP (R172). -/
def execInxSP (s : State) : Out := stepPair 0x33#8 .sp 1#16 s

/-- 0x34 INR M (R169). -/
def execInrM (s : State) : Out := incSel 0x34#8 .m s

/-- 0x35 DCR M (R171). -/
def execDcrM (s : State) : Out := decSel 0x35#8 .m s

/-- 0x39 DAD SP (R174). -/
def execDadSP (s : State) : Out := addPair 0x39#8 .sp s

/-- 0x3B DCX SP (R173). -/
def execDcxSP (s : State) : Out := stepPair 0x3B#8 .sp (-1#16) s

/-- 0x3C INR A (R168). -/
def execInrA (s : State) : Out := incSel 0x3C#8 .a s

/-- 0x3D DCR A (R170). -/
def execDcrA (s : State) : Out := decSel 0x3D#8 .a s

/-- 0x80 ADD B (R153). -/
def execAddB (s : State) : Out := addTo 0x80#8 1#16 (readSel .b s) s

/-- 0x81 ADD C (R153). -/
def execAddC (s : State) : Out := addTo 0x81#8 1#16 (readSel .c s) s

/-- 0x82 ADD D (R153). -/
def execAddD (s : State) : Out := addTo 0x82#8 1#16 (readSel .d s) s

/-- 0x83 ADD E (R153). -/
def execAddE (s : State) : Out := addTo 0x83#8 1#16 (readSel .e s) s

/-- 0x84 ADD H (R153). -/
def execAddH (s : State) : Out := addTo 0x84#8 1#16 (readSel .h s) s

/-- 0x85 ADD L (R153). -/
def execAddL (s : State) : Out := addTo 0x85#8 1#16 (readSel .l s) s

/-- 0x86 ADD M (R154). -/
def execAddM (s : State) : Out := addTo 0x86#8 1#16 (readSel .m s) s

/-- 0x87 ADD A (R153). -/
def execAddA (s : State) : Out := addTo 0x87#8 1#16 (readSel .a s) s

/-- 0x88 ADC B (R156). -/
def execAdcB (s : State) : Out := adcTo 0x88#8 1#16 (readSel .b s) s

/-- 0x89 ADC C (R156). -/
def execAdcC (s : State) : Out := adcTo 0x89#8 1#16 (readSel .c s) s

/-- 0x8A ADC D (R156). -/
def execAdcD (s : State) : Out := adcTo 0x8A#8 1#16 (readSel .d s) s

/-- 0x8B ADC E (R156). -/
def execAdcE (s : State) : Out := adcTo 0x8B#8 1#16 (readSel .e s) s

/-- 0x8C ADC H (R156). -/
def execAdcH (s : State) : Out := adcTo 0x8C#8 1#16 (readSel .h s) s

/-- 0x8D ADC L (R156). -/
def execAdcL (s : State) : Out := adcTo 0x8D#8 1#16 (readSel .l s) s

/-- 0x8E ADC M (R157). -/
def execAdcM (s : State) : Out := adcTo 0x8E#8 1#16 (readSel .m s) s

/-- 0x8F ADC A (R156). -/
def execAdcA (s : State) : Out := adcTo 0x8F#8 1#16 (readSel .a s) s

/-- 0x90 SUB B (R159). -/
def execSubB (s : State) : Out := subFrom 0x90#8 1#16 (readSel .b s) s

/-- 0x91 SUB C (R159). -/
def execSubC (s : State) : Out := subFrom 0x91#8 1#16 (readSel .c s) s

/-- 0x92 SUB D (R159). -/
def execSubD (s : State) : Out := subFrom 0x92#8 1#16 (readSel .d s) s

/-- 0x93 SUB E (R159). -/
def execSubE (s : State) : Out := subFrom 0x93#8 1#16 (readSel .e s) s

/-- 0x94 SUB H (R159). -/
def execSubH (s : State) : Out := subFrom 0x94#8 1#16 (readSel .h s) s

/-- 0x95 SUB L (R159). -/
def execSubL (s : State) : Out := subFrom 0x95#8 1#16 (readSel .l s) s

/-- 0x96 SUB M (R160). -/
def execSubM (s : State) : Out := subFrom 0x96#8 1#16 (readSel .m s) s

/-- 0x97 SUB A (R159). -/
def execSubA (s : State) : Out := subFrom 0x97#8 1#16 (readSel .a s) s

/-- 0x98 SBB B (R162). -/
def execSbbB (s : State) : Out := sbbFrom 0x98#8 1#16 (readSel .b s) s

/-- 0x99 SBB C (R162). -/
def execSbbC (s : State) : Out := sbbFrom 0x99#8 1#16 (readSel .c s) s

/-- 0x9A SBB D (R162). -/
def execSbbD (s : State) : Out := sbbFrom 0x9A#8 1#16 (readSel .d s) s

/-- 0x9B SBB E (R162). -/
def execSbbE (s : State) : Out := sbbFrom 0x9B#8 1#16 (readSel .e s) s

/-- 0x9C SBB H (R162). -/
def execSbbH (s : State) : Out := sbbFrom 0x9C#8 1#16 (readSel .h s) s

/-- 0x9D SBB L (R162). -/
def execSbbL (s : State) : Out := sbbFrom 0x9D#8 1#16 (readSel .l s) s

/-- 0x9E SBB M (R163). -/
def execSbbM (s : State) : Out := sbbFrom 0x9E#8 1#16 (readSel .m s) s

/-- 0x9F SBB A (R162). -/
def execSbbA (s : State) : Out := sbbFrom 0x9F#8 1#16 (readSel .a s) s

/-- 0xB8 CMP B (R165). -/
def execCmpB (s : State) : Out := compare 0xB8#8 1#16 (readSel .b s) s

/-- 0xB9 CMP C (R165). -/
def execCmpC (s : State) : Out := compare 0xB9#8 1#16 (readSel .c s) s

/-- 0xBA CMP D (R165). -/
def execCmpD (s : State) : Out := compare 0xBA#8 1#16 (readSel .d s) s

/-- 0xBB CMP E (R165). -/
def execCmpE (s : State) : Out := compare 0xBB#8 1#16 (readSel .e s) s

/-- 0xBC CMP H (R165). -/
def execCmpH (s : State) : Out := compare 0xBC#8 1#16 (readSel .h s) s

/-- 0xBD CMP L (R165). -/
def execCmpL (s : State) : Out := compare 0xBD#8 1#16 (readSel .l s) s

/-- 0xBE CMP M (R166). -/
def execCmpM (s : State) : Out := compare 0xBE#8 1#16 (readSel .m s) s

/-- 0xBF CMP A (R165). -/
def execCmpA (s : State) : Out := compare 0xBF#8 1#16 (readSel .a s) s

/-- 0xC6 ADI d8 (R155). -/
def execAdi (d : Byte) (s : State) : Out := addTo 0xC6#8 2#16 d s

/-- 0xCE ACI d8 (R158). -/
def execAci (d : Byte) (s : State) : Out := adcTo 0xCE#8 2#16 d s

/-- 0xD6 SUI d8 (R161). -/
def execSui (d : Byte) (s : State) : Out := subFrom 0xD6#8 2#16 d s

/-- 0xDE SBI d8 (R164). -/
def execSbi (d : Byte) (s : State) : Out := sbbFrom 0xDE#8 2#16 d s

/-- 0xFE CPI d8 (R167). -/
def execCpi (d : Byte) (s : State) : Out := compare 0xFE#8 2#16 d s

end Sys2Proof.Machine
end

