-- ==== Sys2Proof/Machine/Branch.lean ====
section
/-!
DEFINITION. The branch family (43_branch.md R220 to R229).
-/

namespace Sys2Proof.Machine

/-! ### Shared operations -/

/-- JMP (R221). -/
def jump (op : Byte) (a : Word) (s : State) : Out :=
  conclude s ((takeImm16 s).map fun t => charge op true { t with pc := a })

/-- A conditional jump: the immediate is fetched whether or not the condition holds (R220, R222 to R229). -/
def jumpIf (op : Byte) (cc : Cond) (a : Word) (s : State) : Out :=
  conclude s ((takeImm16 s).map fun t =>
    if condHolds cc t.f then charge op true { t with pc := a } else complete op 3#16 t)

/-! ### Meanings, one per opcode byte -/

/-- 0xC2 JNZ a16 (R222). -/
def execJnz (a : Word) (s : State) : Out := jumpIf 0xC2#8 .nz a s

/-- 0xC3 JMP a16 (R221). -/
def execJmp (a : Word) (s : State) : Out := jump 0xC3#8 a s

/-- 0xCA JZ a16 (R223). -/
def execJz (a : Word) (s : State) : Out := jumpIf 0xCA#8 .z a s

/-- 0xCB JMP a16, synonym of 0xC3 (R221). -/
def execJmpCB (a : Word) (s : State) : Out := jump 0xCB#8 a s

/-- 0xD2 JNC a16 (R224). -/
def execJnc (a : Word) (s : State) : Out := jumpIf 0xD2#8 .nc a s

/-- 0xDA JC a16 (R225). -/
def execJc (a : Word) (s : State) : Out := jumpIf 0xDA#8 .c a s

/-- 0xE2 JPO a16 (R226). -/
def execJpo (a : Word) (s : State) : Out := jumpIf 0xE2#8 .po a s

/-- 0xEA JPE a16 (R227). -/
def execJpe (a : Word) (s : State) : Out := jumpIf 0xEA#8 .pe a s

/-- 0xF2 JP a16 (R228). -/
def execJp (a : Word) (s : State) : Out := jumpIf 0xF2#8 .p a s

/-- 0xFA JM a16 (R229). -/
def execJm (a : Word) (s : State) : Out := jumpIf 0xFA#8 .m a s

end Sys2Proof.Machine
end

