-- ==== Sys2Proof/Machine/CallReturn.lean ====
section
/-!
DEFINITION. The call, return, restart and indirect jump family (44_call_return.md R240 to R262).
-/

namespace Sys2Proof.Machine

/-! ### Shared operations -/

/-- Push the address after an instruction of `len` bytes, then go to `a` (R241, R262). -/
def callTo (len a : Word) (s : State) : Except FatalFault State :=
  (push16 (s.pc + len) s).map fun t => { t with pc := a }

/-- CALL (R241). -/
def call (op : Byte) (a : Word) (s : State) : Out :=
  conclude s do
    let t ← takeImm16 s
    let u ← callTo 3#16 a t
    .ok (charge op true u)

/-- A conditional call: the immediate is fetched either way, the stack touched only when taken (R240, R242 to R249). -/
def callIf (op : Byte) (cc : Cond) (a : Word) (s : State) : Out :=
  conclude s do
    let t ← takeImm16 s
    if condHolds cc t.f then
      let u ← callTo 3#16 a t
      .ok (charge op true u)
    else .ok (complete op 3#16 t)

/-- RET, which is also the return from an interrupt handler (R250; 60_exceptions.md R347). -/
def ret (op : Byte) (s : State) : Out :=
  conclude s ((popPc s).map (charge op true))

/-- A conditional return (R251 to R258). -/
def retIf (op : Byte) (cc : Cond) (s : State) : Out :=
  if condHolds cc s.f then conclude s ((popPc s).map (charge op true))
  else .next (complete op 1#16 s)

/-- RST: a one-byte call to a fixed address (R262). -/
def restart (op : Byte) (a : Word) (s : State) : Out :=
  conclude s ((callTo 1#16 a s).map (charge op true))

/-! ### Meanings, one per opcode byte -/

/-- 0xC0 RNZ (R251). -/
def execRnz (s : State) : Out := retIf 0xC0#8 .nz s

/-- 0xC4 CNZ a16 (R242). -/
def execCnz (a : Word) (s : State) : Out := callIf 0xC4#8 .nz a s

/-- 0xC7 RST 0 (R262). -/
def execRst0 (s : State) : Out := restart 0xC7#8 0#16 s

/-- 0xC8 RZ (R252). -/
def execRz (s : State) : Out := retIf 0xC8#8 .z s

/-- 0xC9 RET (R250). -/
def execRet (s : State) : Out := ret 0xC9#8 s

/-- 0xCC CZ a16 (R243). -/
def execCz (a : Word) (s : State) : Out := callIf 0xCC#8 .z a s

/-- 0xCD CALL a16 (R241). -/
def execCall (a : Word) (s : State) : Out := call 0xCD#8 a s

/-- 0xCF RST 1 (R262). -/
def execRst1 (s : State) : Out := restart 0xCF#8 8#16 s

/-- 0xD0 RNC (R253). -/
def execRnc (s : State) : Out := retIf 0xD0#8 .nc s

/-- 0xD4 CNC a16 (R244). -/
def execCnc (a : Word) (s : State) : Out := callIf 0xD4#8 .nc a s

/-- 0xD7 RST 2 (R262). -/
def execRst2 (s : State) : Out := restart 0xD7#8 16#16 s

/-- 0xD8 RC (R254). -/
def execRc (s : State) : Out := retIf 0xD8#8 .c s

/-- 0xD9 RET, synonym of 0xC9 (R250). -/
def execRetD9 (s : State) : Out := ret 0xD9#8 s

/-- 0xDC CC a16 (R245). -/
def execCc (a : Word) (s : State) : Out := callIf 0xDC#8 .c a s

/-- 0xDD CALL a16, synonym of 0xCD (R241). -/
def execCallDD (a : Word) (s : State) : Out := call 0xDD#8 a s

/-- 0xDF RST 3 (R262). -/
def execRst3 (s : State) : Out := restart 0xDF#8 24#16 s

/-- 0xE0 RPO (R255). -/
def execRpo (s : State) : Out := retIf 0xE0#8 .po s

/-- 0xE4 CPO a16 (R246). -/
def execCpo (a : Word) (s : State) : Out := callIf 0xE4#8 .po a s

/-- 0xE7 RST 4 (R262). -/
def execRst4 (s : State) : Out := restart 0xE7#8 32#16 s

/-- 0xE8 RPE (R256). -/
def execRpe (s : State) : Out := retIf 0xE8#8 .pe s

/-- 0xE9 PCHL (R259). -/
def execPchl (s : State) : Out := .next (charge 0xE9#8 false { s with pc := s.hl })

/-- 0xEC CPE a16 (R247). -/
def execCpe (a : Word) (s : State) : Out := callIf 0xEC#8 .pe a s

/-- 0xED CALL a16, synonym of 0xCD (R241). -/
def execCallED (a : Word) (s : State) : Out := call 0xED#8 a s

/-- 0xEF RST 5 (R262). -/
def execRst5 (s : State) : Out := restart 0xEF#8 40#16 s

/-- 0xF0 RP (R257). -/
def execRp (s : State) : Out := retIf 0xF0#8 .p s

/-- 0xF4 CP a16 (R248). -/
def execCp (a : Word) (s : State) : Out := callIf 0xF4#8 .p a s

/-- 0xF7 RST 6 (R262). -/
def execRst6 (s : State) : Out := restart 0xF7#8 48#16 s

/-- 0xF8 RM (R258). -/
def execRm (s : State) : Out := retIf 0xF8#8 .m s

/-- 0xFC CM a16 (R249). -/
def execCm (a : Word) (s : State) : Out := callIf 0xFC#8 .m a s

/-- 0xFD CALL a16, synonym of 0xCD (R241). -/
def execCallFD (a : Word) (s : State) : Out := call 0xFD#8 a s

/-- 0xFF RST 7 (R262). -/
def execRst7 (s : State) : Out := restart 0xFF#8 56#16 s

end Sys2Proof.Machine
end

