-- ==== Sys2Proof/Machine/DataTransfer.lean ====
section
/-!
DEFINITION. The data transfer family (40_data_transfer.md R120 to R135). No instruction of it writes F (R120).
-/

namespace Sys2Proof.Machine

/-! ### Shared operations -/

/-- MOV between two operands by selector (R121, R122, R123). -/
def movSel (op : Byte) (dst src : Sel) (s : State) : Out :=
  .next (complete op 1#16 (writeSel dst (readSel src s) s))

/-- MVI to an operand by selector (R124, R125). -/
def mviSel (op : Byte) (dst : Sel) (d : Byte) (s : State) : Out :=
  .next (complete op 2#16 (writeSel dst d s))

/-- LXI (R126). -/
def loadPair (op : Byte) (dst : Pair) (v : Word) (s : State) : Out :=
  conclude s ((takeImm16 s).map fun t => complete op 3#16 (writePair dst v t))

/-- LDAX (R131). -/
def loadIndirect (op : Byte) (addr : Pair) (s : State) : Out :=
  .next (complete op 1#16 { s with a := s.mem.read (readPair addr s) })

/-- STAX (R132). -/
def storeIndirect (op : Byte) (addr : Pair) (s : State) : Out :=
  .next (complete op 1#16 { s with mem := s.mem.write (readPair addr s) s.a })

/-! ### Meanings, one per opcode byte -/

/-- 0x01 LXI B,d16 (R126). -/
def execLxiB (v : Word) (s : State) : Out := loadPair 0x01#8 .bc v s

/-- 0x02 STAX B (R132). -/
def execStaxB (s : State) : Out := storeIndirect 0x02#8 .bc s

/-- 0x06 MVI B,d8 (R124). -/
def execMviB (d : Byte) (s : State) : Out := mviSel 0x06#8 .b d s

/-- 0x0A LDAX B (R131). -/
def execLdaxB (s : State) : Out := loadIndirect 0x0A#8 .bc s

/-- 0x0E MVI C,d8 (R124). -/
def execMviC (d : Byte) (s : State) : Out := mviSel 0x0E#8 .c d s

/-- 0x11 LXI D,d16 (R126). -/
def execLxiD (v : Word) (s : State) : Out := loadPair 0x11#8 .de v s

/-- 0x12 STAX D (R132). -/
def execStaxD (s : State) : Out := storeIndirect 0x12#8 .de s

/-- 0x16 MVI D,d8 (R124). -/
def execMviD (d : Byte) (s : State) : Out := mviSel 0x16#8 .d d s

/-- 0x1A LDAX D (R131). -/
def execLdaxD (s : State) : Out := loadIndirect 0x1A#8 .de s

/-- 0x1E MVI E,d8 (R124). -/
def execMviE (d : Byte) (s : State) : Out := mviSel 0x1E#8 .e d s

/-- 0x21 LXI H,d16 (R126). -/
def execLxiH (v : Word) (s : State) : Out := loadPair 0x21#8 .hl v s

/-- 0x22 SHLD a16 (R130). -/
def execShld (a : Word) (s : State) : Out :=
  conclude s do
    let t ← takeImm16 s
    let m ← memWrite16 t.mem a t.hl
    .ok (complete 0x22#8 3#16 { t with mem := m })

/-- 0x26 MVI H,d8 (R124). -/
def execMviH (d : Byte) (s : State) : Out := mviSel 0x26#8 .h d s

/-- 0x2A LHLD a16 (R129). -/
def execLhld (a : Word) (s : State) : Out :=
  conclude s do
    let t ← takeImm16 s
    let w ← memRead16 t.mem a
    .ok (complete 0x2A#8 3#16 { t with h := hi8 w, l := lo8 w })

/-- 0x2E MVI L,d8 (R124). -/
def execMviL (d : Byte) (s : State) : Out := mviSel 0x2E#8 .l d s

/-- 0x31 LXI SP,d16 (R126). -/
def execLxiSP (v : Word) (s : State) : Out := loadPair 0x31#8 .sp v s

/-- 0x32 STA a16 (R128). -/
def execSta (a : Word) (s : State) : Out :=
  conclude s ((takeImm16 s).map fun t => complete 0x32#8 3#16 { t with mem := t.mem.write a t.a })

/-- 0x36 MVI M,d8 (R125). -/
def execMviM (d : Byte) (s : State) : Out := mviSel 0x36#8 .m d s

/-- 0x3A LDA a16 (R127). -/
def execLda (a : Word) (s : State) : Out :=
  conclude s ((takeImm16 s).map fun t => complete 0x3A#8 3#16 { t with a := t.mem.read a })

/-- 0x3E MVI A,d8 (R124). -/
def execMviA (d : Byte) (s : State) : Out := mviSel 0x3E#8 .a d s

/-- 0x40 MOV B,B (R121). -/
def execMovBB (s : State) : Out := movSel 0x40#8 .b .b s

/-- 0x41 MOV B,C (R121). -/
def execMovBC (s : State) : Out := movSel 0x41#8 .b .c s

/-- 0x42 MOV B,D (R121). -/
def execMovBD (s : State) : Out := movSel 0x42#8 .b .d s

/-- 0x43 MOV B,E (R121). -/
def execMovBE (s : State) : Out := movSel 0x43#8 .b .e s

/-- 0x44 MOV B,H (R121). -/
def execMovBH (s : State) : Out := movSel 0x44#8 .b .h s

/-- 0x45 MOV B,L (R121). -/
def execMovBL (s : State) : Out := movSel 0x45#8 .b .l s

/-- 0x46 MOV B,M (R122). -/
def execMovBM (s : State) : Out := movSel 0x46#8 .b .m s

/-- 0x47 MOV B,A (R121). -/
def execMovBA (s : State) : Out := movSel 0x47#8 .b .a s

/-- 0x48 MOV C,B (R121). -/
def execMovCB (s : State) : Out := movSel 0x48#8 .c .b s

/-- 0x49 MOV C,C (R121). -/
def execMovCC (s : State) : Out := movSel 0x49#8 .c .c s

/-- 0x4A MOV C,D (R121). -/
def execMovCD (s : State) : Out := movSel 0x4A#8 .c .d s

/-- 0x4B MOV C,E (R121). -/
def execMovCE (s : State) : Out := movSel 0x4B#8 .c .e s

/-- 0x4C MOV C,H (R121). -/
def execMovCH (s : State) : Out := movSel 0x4C#8 .c .h s

/-- 0x4D MOV C,L (R121). -/
def execMovCL (s : State) : Out := movSel 0x4D#8 .c .l s

/-- 0x4E MOV C,M (R122). -/
def execMovCM (s : State) : Out := movSel 0x4E#8 .c .m s

/-- 0x4F MOV C,A (R121). -/
def execMovCA (s : State) : Out := movSel 0x4F#8 .c .a s

/-- 0x50 MOV D,B (R121). -/
def execMovDB (s : State) : Out := movSel 0x50#8 .d .b s

/-- 0x51 MOV D,C (R121). -/
def execMovDC (s : State) : Out := movSel 0x51#8 .d .c s

/-- 0x52 MOV D,D (R121). -/
def execMovDD (s : State) : Out := movSel 0x52#8 .d .d s

/-- 0x53 MOV D,E (R121). -/
def execMovDE (s : State) : Out := movSel 0x53#8 .d .e s

/-- 0x54 MOV D,H (R121). -/
def execMovDH (s : State) : Out := movSel 0x54#8 .d .h s

/-- 0x55 MOV D,L (R121). -/
def execMovDL (s : State) : Out := movSel 0x55#8 .d .l s

/-- 0x56 MOV D,M (R122). -/
def execMovDM (s : State) : Out := movSel 0x56#8 .d .m s

/-- 0x57 MOV D,A (R121). -/
def execMovDA (s : State) : Out := movSel 0x57#8 .d .a s

/-- 0x58 MOV E,B (R121). -/
def execMovEB (s : State) : Out := movSel 0x58#8 .e .b s

/-- 0x59 MOV E,C (R121). -/
def execMovEC (s : State) : Out := movSel 0x59#8 .e .c s

/-- 0x5A MOV E,D (R121). -/
def execMovED (s : State) : Out := movSel 0x5A#8 .e .d s

/-- 0x5B MOV E,E (R121). -/
def execMovEE (s : State) : Out := movSel 0x5B#8 .e .e s

/-- 0x5C MOV E,H (R121). -/
def execMovEH (s : State) : Out := movSel 0x5C#8 .e .h s

/-- 0x5D MOV E,L (R121). -/
def execMovEL (s : State) : Out := movSel 0x5D#8 .e .l s

/-- 0x5E MOV E,M (R122). -/
def execMovEM (s : State) : Out := movSel 0x5E#8 .e .m s

/-- 0x5F MOV E,A (R121). -/
def execMovEA (s : State) : Out := movSel 0x5F#8 .e .a s

/-- 0x60 MOV H,B (R121). -/
def execMovHB (s : State) : Out := movSel 0x60#8 .h .b s

/-- 0x61 MOV H,C (R121). -/
def execMovHC (s : State) : Out := movSel 0x61#8 .h .c s

/-- 0x62 MOV H,D (R121). -/
def execMovHD (s : State) : Out := movSel 0x62#8 .h .d s

/-- 0x63 MOV H,E (R121). -/
def execMovHE (s : State) : Out := movSel 0x63#8 .h .e s

/-- 0x64 MOV H,H (R121). -/
def execMovHH (s : State) : Out := movSel 0x64#8 .h .h s

/-- 0x65 MOV H,L (R121). -/
def execMovHL (s : State) : Out := movSel 0x65#8 .h .l s

/-- 0x66 MOV H,M (R122). -/
def execMovHM (s : State) : Out := movSel 0x66#8 .h .m s

/-- 0x67 MOV H,A (R121). -/
def execMovHA (s : State) : Out := movSel 0x67#8 .h .a s

/-- 0x68 MOV L,B (R121). -/
def execMovLB (s : State) : Out := movSel 0x68#8 .l .b s

/-- 0x69 MOV L,C (R121). -/
def execMovLC (s : State) : Out := movSel 0x69#8 .l .c s

/-- 0x6A MOV L,D (R121). -/
def execMovLD (s : State) : Out := movSel 0x6A#8 .l .d s

/-- 0x6B MOV L,E (R121). -/
def execMovLE (s : State) : Out := movSel 0x6B#8 .l .e s

/-- 0x6C MOV L,H (R121). -/
def execMovLH (s : State) : Out := movSel 0x6C#8 .l .h s

/-- 0x6D MOV L,L (R121). -/
def execMovLL (s : State) : Out := movSel 0x6D#8 .l .l s

/-- 0x6E MOV L,M (R122). -/
def execMovLM (s : State) : Out := movSel 0x6E#8 .l .m s

/-- 0x6F MOV L,A (R121). -/
def execMovLA (s : State) : Out := movSel 0x6F#8 .l .a s

/-- 0x70 MOV M,B (R123). -/
def execMovMB (s : State) : Out := movSel 0x70#8 .m .b s

/-- 0x71 MOV M,C (R123). -/
def execMovMC (s : State) : Out := movSel 0x71#8 .m .c s

/-- 0x72 MOV M,D (R123). -/
def execMovMD (s : State) : Out := movSel 0x72#8 .m .d s

/-- 0x73 MOV M,E (R123). -/
def execMovME (s : State) : Out := movSel 0x73#8 .m .e s

/-- 0x74 MOV M,H (R123). -/
def execMovMH (s : State) : Out := movSel 0x74#8 .m .h s

/-- 0x75 MOV M,L (R123). -/
def execMovML (s : State) : Out := movSel 0x75#8 .m .l s

/-- 0x77 MOV M,A (R123). -/
def execMovMA (s : State) : Out := movSel 0x77#8 .m .a s

/-- 0x78 MOV A,B (R121). -/
def execMovAB (s : State) : Out := movSel 0x78#8 .a .b s

/-- 0x79 MOV A,C (R121). -/
def execMovAC (s : State) : Out := movSel 0x79#8 .a .c s

/-- 0x7A MOV A,D (R121). -/
def execMovAD (s : State) : Out := movSel 0x7A#8 .a .d s

/-- 0x7B MOV A,E (R121). -/
def execMovAE (s : State) : Out := movSel 0x7B#8 .a .e s

/-- 0x7C MOV A,H (R121). -/
def execMovAH (s : State) : Out := movSel 0x7C#8 .a .h s

/-- 0x7D MOV A,L (R121). -/
def execMovAL (s : State) : Out := movSel 0x7D#8 .a .l s

/-- 0x7E MOV A,M (R122). -/
def execMovAM (s : State) : Out := movSel 0x7E#8 .a .m s

/-- 0x7F MOV A,A (R121). -/
def execMovAA (s : State) : Out := movSel 0x7F#8 .a .a s

/-- 0xE3 XTHL (R134). -/
def execXthl (s : State) : Out :=
  conclude s do
    let w ← memRead16 s.mem s.sp
    let m ← memWrite16 s.mem s.sp s.hl
    .ok (complete 0xE3#8 1#16 { s with mem := m, h := hi8 w, l := lo8 w })

/-- 0xEB XCHG (R133). -/
def execXchg (s : State) : Out := .next (complete 0xEB#8 1#16 { s with h := s.d, d := s.h, l := s.e, e := s.l })

/-- 0xF9 SPHL (R135). -/
def execSphl (s : State) : Out := .next (complete 0xF9#8 1#16 { s with sp := s.hl })

end Sys2Proof.Machine
end

