-- ==== Sys2Proof/Machine/Ports.lean ====
section
/-!
DEFINITION. The I/O Port Bank (60_exceptions.md R350 to R353).
-/

namespace Sys2Proof.Machine

/-- The windowed view of the shift register: the byte that starts `SHIFT_AMT` bits below its top (R350). -/
def shiftWindow (s : State) : Byte :=
  (word s.shiftHi s.shiftLo >>> (8 - s.shiftAmt.toNat)).setWidth 8

/-- `PortRead(p)`: the value of an assigned input port, none for any other (R350). -/
def portRead (p : Byte) (s : State) : Option Byte :=
  if p = s.config.portSw1 then some s.sw1
  else if p = s.config.portSw2 then some s.sw2
  else if p = s.config.portShiftRead then some (shiftWindow s)
  else none

/-- `PortWrite(p, v)`: the sound ports 3 and 5, like every port not assigned for output, change no state
(R351, R352, R353). A launch may give 3 or 5 to an assigned port, and R351 gives its two rows no order: the assigned port
wins (DESIGN CHOICE, log 24). -/
def portWrite (p v : Byte) (s : State) : State :=
  if p = s.config.portShiftAmt then { s with shiftAmt := v.setWidth 3 }
  else if p = s.config.portShiftData then { s with shiftLo := s.shiftHi, shiftHi := v }
  else if p = s.config.portAck then { s with ack := v }
  else s

end Sys2Proof.Machine
end

