-- ==== Sys2Proof/Machine/InputOutput.lean ====
section
/-!
DEFINITION. The input and output family (46_io.md R290 to R292).
-/

namespace Sys2Proof.Machine

/-- 0xD3 OUT d8 (R292). -/
def execOutp (d : Byte) (s : State) : Out := .next (complete 0xD3#8 2#16 (portWrite d s.a s))

/-- 0xDB IN d8 (R291). -/
def execInp (d : Byte) (s : State) : Out :=
  .next (complete 0xDB#8 2#16
    (match portRead d s with
      | some v => { s with a := v }
      | none => s))

end Sys2Proof.Machine
end

