-- ==== Sys2Proof/Machine/Logical.lean ====
section
/-!
DEFINITION. The logical and rotate family (42_logical.md R190 to R206).
-/

namespace Sys2Proof.Machine

/-! ### Shared operations -/

/-- ANA and ANI with operand `v` (R191, R192, R193). -/
def andWith (op : Byte) (len : Word) (v : Byte) (s : State) : Out :=
  let r := andOp s.a v s.f
  .next (complete op len { s with a := r.value, f := r.flags })

/-- XRA and XRI with operand `v` (R194, R195, R196). -/
def xorWith (op : Byte) (len : Word) (v : Byte) (s : State) : Out :=
  let r := xorOp s.a v s.f
  .next (complete op len { s with a := r.value, f := r.flags })

/-- ORA and ORI with operand `v` (R197, R198, R199). -/
def orWith (op : Byte) (len : Word) (v : Byte) (s : State) : Out :=
  let r := orOp s.a v s.f
  .next (complete op len { s with a := r.value, f := r.flags })

/-! ### Meanings, one per opcode byte -/

/-- 0x07 RLC (R201). -/
def execRlc (s : State) : Out := onAcc 0x07#8 rlcOp s

/-- 0x0F RRC (R202). -/
def execRrc (s : State) : Out := onAcc 0x0F#8 rrcOp s

/-- 0x17 RAL (R203). -/
def execRal (s : State) : Out := onAcc 0x17#8 ralOp s

/-- 0x1F RAR (R204). -/
def execRar (s : State) : Out := onAcc 0x1F#8 rarOp s

/-- 0x2F CMA (R200). -/
def execCma (s : State) : Out := .next (complete 0x2F#8 1#16 { s with a := ~~~s.a })

/-- 0x37 STC (R206). -/
def execStc (s : State) : Out := .next (complete 0x37#8 1#16 { s with f := setFlag s.f .cy true })

/-- 0x3F CMC (R205). -/
def execCmc (s : State) : Out := .next (complete 0x3F#8 1#16 { s with f := setFlag s.f .cy (!getFlag s.f .cy) })

/-- 0xA0 ANA B (R191). -/
def execAnaB (s : State) : Out := andWith 0xA0#8 1#16 (readSel .b s) s

/-- 0xA1 ANA C (R191). -/
def execAnaC (s : State) : Out := andWith 0xA1#8 1#16 (readSel .c s) s

/-- 0xA2 ANA D (R191). -/
def execAnaD (s : State) : Out := andWith 0xA2#8 1#16 (readSel .d s) s

/-- 0xA3 ANA E (R191). -/
def execAnaE (s : State) : Out := andWith 0xA3#8 1#16 (readSel .e s) s

/-- 0xA4 ANA H (R191). -/
def execAnaH (s : State) : Out := andWith 0xA4#8 1#16 (readSel .h s) s

/-- 0xA5 ANA L (R191). -/
def execAnaL (s : State) : Out := andWith 0xA5#8 1#16 (readSel .l s) s

/-- 0xA6 ANA M (R192). -/
def execAnaM (s : State) : Out := andWith 0xA6#8 1#16 (readSel .m s) s

/-- 0xA7 ANA A (R191). -/
def execAnaA (s : State) : Out := andWith 0xA7#8 1#16 (readSel .a s) s

/-- 0xA8 XRA B (R194). -/
def execXraB (s : State) : Out := xorWith 0xA8#8 1#16 (readSel .b s) s

/-- 0xA9 XRA C (R194). -/
def execXraC (s : State) : Out := xorWith 0xA9#8 1#16 (readSel .c s) s

/-- 0xAA XRA D (R194). -/
def execXraD (s : State) : Out := xorWith 0xAA#8 1#16 (readSel .d s) s

/-- 0xAB XRA E (R194). -/
def execXraE (s : State) : Out := xorWith 0xAB#8 1#16 (readSel .e s) s

/-- 0xAC XRA H (R194). -/
def execXraH (s : State) : Out := xorWith 0xAC#8 1#16 (readSel .h s) s

/-- 0xAD XRA L (R194). -/
def execXraL (s : State) : Out := xorWith 0xAD#8 1#16 (readSel .l s) s

/-- 0xAE XRA M (R195). -/
def execXraM (s : State) : Out := xorWith 0xAE#8 1#16 (readSel .m s) s

/-- 0xAF XRA A (R194). -/
def execXraA (s : State) : Out := xorWith 0xAF#8 1#16 (readSel .a s) s

/-- 0xB0 ORA B (R197). -/
def execOraB (s : State) : Out := orWith 0xB0#8 1#16 (readSel .b s) s

/-- 0xB1 ORA C (R197). -/
def execOraC (s : State) : Out := orWith 0xB1#8 1#16 (readSel .c s) s

/-- 0xB2 ORA D (R197). -/
def execOraD (s : State) : Out := orWith 0xB2#8 1#16 (readSel .d s) s

/-- 0xB3 ORA E (R197). -/
def execOraE (s : State) : Out := orWith 0xB3#8 1#16 (readSel .e s) s

/-- 0xB4 ORA H (R197). -/
def execOraH (s : State) : Out := orWith 0xB4#8 1#16 (readSel .h s) s

/-- 0xB5 ORA L (R197). -/
def execOraL (s : State) : Out := orWith 0xB5#8 1#16 (readSel .l s) s

/-- 0xB6 ORA M (R198). -/
def execOraM (s : State) : Out := orWith 0xB6#8 1#16 (readSel .m s) s

/-- 0xB7 ORA A (R197). -/
def execOraA (s : State) : Out := orWith 0xB7#8 1#16 (readSel .a s) s

/-- 0xE6 ANI d8 (R193). -/
def execAni (d : Byte) (s : State) : Out := andWith 0xE6#8 2#16 d s

/-- 0xEE XRI d8 (R196). -/
def execXri (d : Byte) (s : State) : Out := xorWith 0xEE#8 2#16 d s

/-- 0xF6 ORI d8 (R199). -/
def execOri (d : Byte) (s : State) : Out := orWith 0xF6#8 2#16 d s

end Sys2Proof.Machine
end

