-- ==== Sys2Proof/Machine/MachineControl.lean ====
section
/-!
DEFINITION. Interrupt control and machine control (47_interrupt_and_machine_control.md R310 to R313).
-/

namespace Sys2Proof.Machine

/-! ### Shared operations -/

/-- NOP (R312). -/
def noOperation (op : Byte) (s : State) : Out := .next (complete op 1#16 s)

/-! ### Meanings, one per opcode byte -/

/-- 0x00 NOP (R312). -/
def execNop (s : State) : Out := noOperation 0x00#8 s

/-- 0x08 NOP, synonym of 0x00 (R312). -/
def execNop08 (s : State) : Out := noOperation 0x08#8 s

/-- 0x10 NOP, synonym of 0x00 (R312). -/
def execNop10 (s : State) : Out := noOperation 0x10#8 s

/-- 0x18 NOP, synonym of 0x00 (R312). -/
def execNop18 (s : State) : Out := noOperation 0x18#8 s

/-- 0x20 NOP, synonym of 0x00 (R312). -/
def execNop20 (s : State) : Out := noOperation 0x20#8 s

/-- 0x28 NOP, synonym of 0x00 (R312). -/
def execNop28 (s : State) : Out := noOperation 0x28#8 s

/-- 0x30 NOP, synonym of 0x00 (R312). -/
def execNop30 (s : State) : Out := noOperation 0x30#8 s

/-- 0x38 NOP, synonym of 0x00 (R312). -/
def execNop38 (s : State) : Out := noOperation 0x38#8 s

/-- 0x76 (unassigned; Intel HLT) (R313): the fatal decode fault while 0x76 is unassigned; the spec gives no HLT semantics for a launch that assigns it. -/
def execUnassigned76 (s : State) : Out :=
  if s.config.unassignedOpcodes.contains 0x76#8 then .next (raise (.decodeFault s.pc 0x76#8) s)
  else .refused .hltUnspecified

/-- 0xF3 DI (R311). -/
def execDi (s : State) : Out := .next (complete 0xF3#8 1#16 { s with f := setFlag s.f .ie false })

/-- 0xFB EI (R310). -/
def execEi (s : State) : Out := .next (complete 0xFB#8 1#16 { s with f := setFlag s.f .ie true })

end Sys2Proof.Machine
end

