-- ==== Sys2Proof/Machine/Stack.lean ====
section
/-!
DEFINITION. The stack family (45_stack.md R270 to R280).
-/

namespace Sys2Proof.Machine

/-! ### Shared operations -/

/-- PUSH (R271 to R274). -/
def pushPair (op : Byte) (i : StackPair) (s : State) : Out :=
  conclude s ((push16 (readStackPair i s) s).map (complete op 1#16))

/-- POP (R276 to R279). -/
def popPair (op : Byte) (i : StackPair) (s : State) : Out :=
  conclude s ((pop16 s).map fun r => complete op 1#16 (writeStackPair i r.1 r.2))

/-! ### Meanings, one per opcode byte -/

/-- 0xC1 POP B (R276). -/
def execPopB (s : State) : Out := popPair 0xC1#8 .bc s

/-- 0xC5 PUSH B (R271). -/
def execPushB (s : State) : Out := pushPair 0xC5#8 .bc s

/-- 0xD1 POP D (R277). -/
def execPopD (s : State) : Out := popPair 0xD1#8 .de s

/-- 0xD5 PUSH D (R272). -/
def execPushD (s : State) : Out := pushPair 0xD5#8 .de s

/-- 0xE1 POP H (R278). -/
def execPopH (s : State) : Out := popPair 0xE1#8 .hl s

/-- 0xE5 PUSH H (R273). -/
def execPushH (s : State) : Out := pushPair 0xE5#8 .hl s

/-- 0xF1 POP PSW (R279). -/
def execPopPSW (s : State) : Out := popPair 0xF1#8 .psw s

/-- 0xF5 PUSH PSW (R274). -/
def execPushPSW (s : State) : Out := pushPair 0xF5#8 .psw s

end Sys2Proof.Machine
end

