-- ==== Sys2Proof/WellFormed.lean ====
section
/-!
DEFINITION. Well-formed launch parameters (92_eei_decisions.md, last paragraph) and well-formed instructions. The types
of `Instr` already bound every immediate; what is left to check is that the launch assigns the opcode.
-/

namespace Sys2Proof

/-- `CYCLE_BUDGET >= 18` (92_eei_decisions.md D30; U16 of 93_implementation_defined.md). -/
def Config.budgetOk (c : Config) : Bool := decide (18 ≤ c.cycleBudget)

/-- The three input port numbers are distinct (60_exceptions.md R350; U17). -/
def Config.inputPortsOk (c : Config) : Bool :=
  c.portSw1 != c.portSw2 && c.portSw1 != c.portShiftRead && c.portSw2 != c.portShiftRead

/-- The three output port numbers are distinct (60_exceptions.md R351; U17). -/
def Config.outputPortsOk (c : Config) : Bool :=
  c.portShiftAmt != c.portShiftData && c.portShiftAmt != c.portAck && c.portShiftData != c.portAck

/-- `VRAM_BASE + VRAM_SIZE <= 0x10000` (92_eei_decisions.md, last paragraph). -/
def Config.vramOk (c : Config) : Bool := decide (c.vramBase.toNat + c.vramSize ≤ 0x10000)

/-- The four constraints on the launch parameters. -/
def Config.wf (c : Config) : Bool := c.budgetOk && c.inputPortsOk && c.outputPortsOk && c.vramOk

/-- An instruction is well formed under `c` when its opcode is assigned (30_encoding.md R102). -/
def Instr.wf (c : Config) (i : Instr) : Bool := !c.unassignedOpcodes.contains i.opcode

end Sys2Proof
end

