-- ==== Sys2Proof/Machine/Step.lean ====
section
/-!
DEFINITION. The step (60_exceptions.md R337): the interrupt check, then one instruction. It only puts together
operations of Machine/Ops.lean and `exec`.
-/

namespace Sys2Proof.Machine

/-- Phase B of the step: fetch and decode the instruction at PC, then execute it (R337). -/
def runInstruction (s : State) : Out :=
  match fetch s with
  | .error f => .next (raise f s)
  | .ok i => exec i s

/-- One step: none while `FAULT` is set (R333), a refusal under ill-formed parameters (U16, U17), else phase A and, if
it raises nothing, phase B (R337). A fault of phase B leaves what phase A did (R333). -/
def step (s : State) : Host.Outcome State Fault Refusal :=
  match s.fault with
  | some f => .fault (.stopped f)
  | none =>
    if s.config.wf then
      match interruptCheck s with
      | .error f => .next (raise f s)
      | .ok t => runInstruction t
    else .refused .badParameters

/-- `s` with the instruction of `w` stored where the next step fetches it (log 21). -/
def State.withFetchWord (s : State) (nbits w : Nat) : State := storeAtFetch s nbits w

end Sys2Proof.Machine
end

