-- ==== Sys2Proof/Machine/Diagnostic.lean ====
section
/-!
DEFINITION. The diagnostic a stopped core surfaces (60_exceptions.md R334): a function of the state, which the host
reads once, when `FAULT` is set.
-/

namespace Sys2Proof.Machine

/-- `Diag` (R334). -/
structure Diag where
  fault : FatalFault
  pc : Word
  sp : Word
  a : Byte
  b : Byte
  c : Byte
  d : Byte
  e : Byte
  h : Byte
  l : Byte
  flagS : Bool
  flagZ : Bool
  flagIE : Bool
  flagAC : Bool
  flagP : Bool
  flagCY : Bool
  stackTop : Word
  icount : Nat
  deriving DecidableEq, Repr

/-- The word at SP, read byte by byte with wrapping addresses, so that it cannot fault (R334). -/
def stackTop (s : State) : Word := word (s.mem.read (s.sp + 1#16)) (s.mem.read s.sp)

/-- The dump of a stopped state; none while the core runs (R334). -/
def diagnostic (s : State) : Option Diag :=
  s.fault.map fun r =>
    { fault := r, pc := s.pc, sp := s.sp, a := s.a, b := s.b, c := s.c, d := s.d, e := s.e, h := s.h, l := s.l,
      flagS := getFlag s.f .s, flagZ := getFlag s.f .z, flagIE := getFlag s.f .ie, flagAC := getFlag s.f .ac,
      flagP := getFlag s.f .p, flagCY := getFlag s.f .cy, stackTop := stackTop s, icount := s.icount }

end Sys2Proof.Machine
end

