-- ==== Sys2Proof/Machine/Launch.lean ====
section
/-!
DEFINITION. The launch (70_reset_and_hazards.md R390, R406): reset with chosen parameters, the image bytes the Loader
wrote at chosen offsets, and the switch pairs the host will supply.
-/

namespace Sys2Proof.Machine

/-- Load the pieces of an image, each "a contiguous byte sequence" at its offset (R390). The spec does not say what pieces
that overlap do; they are written in order, so the later wins (DESIGN CHOICE, log 25). -/
def loadImage : List (Word × List Byte) → Memory → Memory
  | [], m => m
  | (addr, bytes) :: rest, m => loadImage rest (m.load addr bytes)

/-- The launch state: the reset state of 10_state.md R49 with the loaded image and the host's inputs (R390, R406). -/
def launch (c : Config) (image : List (Word × List Byte)) (inputs : List (Byte × Byte)) : State :=
  { State.resetWith c with mem := loadImage image [], inputs := inputs }

end Sys2Proof.Machine
end

