-- ==== Sys2Proof/Safety.lean ====
section
/-!
DEFINITION. The terms claims are stated in: running and stopped states, the end of a run (70_reset_and_hazards.md R404),
reachable states, and the invariants of the machine.
-/

namespace Sys2Proof.Machine

/-- The core can take a step: no fatal fault is latched (10_state.md R44). -/
abbrev Running (s : State) : Prop := s.fault = none

/-- "A step is about to begin with PC = END_ADDR and FAULT = none" (R404). -/
abbrev AtEnd (endAddr : Word) (s : State) : Prop := s.pc = endAddr ∧ s.fault = none

/-- How a run of bounded length from a launch comes out (R404). -/
inductive RunResult where
  /-- The run is over; the state is the observation. -/
  | finished (s : State)
  /-- A fatal fault stopped it; no end of a run. -/
  | faulted (s : State)
  /-- A step was refused. -/
  | refused (r : Refusal)
  /-- Neither end nor fault within the steps allowed. -/
  | unfinished (s : State)
  deriving DecidableEq, Repr

/-- Run until the first state at `endAddr`, a fault, or the step limit (R404). -/
def runToEnd (endAddr : Word) : Nat → State → RunResult
  | 0, s => if AtEnd endAddr s then .finished s else if Running s then .unfinished s else .faulted s
  | n + 1, s =>
    if AtEnd endAddr s then .finished s
    else match step s with
      | .next t => runToEnd endAddr n t
      | .fault _ => .faulted s
      | .refused r => .refused r

/-- `t` is reached from `s` by some number of steps. -/
inductive Reaches (s : State) : State → Prop where
  | refl : Reaches s s
  | step {t u : State} : Reaches s t → step t = .next u → Reaches s u

/-- Memory is in its canonical form. -/
abbrev MemCanonical (s : State) : Prop := s.mem.wf = true

/-- No instruction costs more than 18 cycles, the largest cost of the default table (30_encoding.md R110). -/
abbrev CostsBounded (c : Config) : Prop := ∀ p ∈ c.cycCost, p.1 ≤ 18 ∧ p.2 ≤ 18

/-- The bound of 10_state.md R41 on `CYC`. -/
abbrev CycBounded (s : State) : Prop := s.cyc ≤ s.config.cycleBudget + 18

/-- The invariant every step keeps. -/
abbrev Inv (s : State) : Prop :=
  MemCanonical s ∧ s.config.wf = true ∧ CostsBounded s.config ∧ CycBounded s

end Sys2Proof.Machine
end

