-- ==== Sys2Proof/Certificates/Slice0/Obligations.lean ====
section
/-!
DEFINITION. The statements for the provers, in the terms of Safety.lean, after the tables and shapes they share
(namespace Claims). Each docstring names the rules it formalises and says where it rests on an inference or a decision the
spec marks as its own, or on a log entry of the model. Opcode bytes and cycle numbers are those the spec supplies from
general knowledge (R3, R100, R110). Statements about `exec` hold in every state; those that need an invariant name it as a
premise.
-/

namespace Sys2Proof.Claims

open Machine

/-- The selector number of an operand (10_state.md R21). -/
def selNum : Sel → Nat
  | .b => 0 | .c => 1 | .d => 2 | .e => 3 | .h => 4 | .l => 5 | .m => 6 | .a => 7

/-- The pair number in the SP class (R25). -/
def pairNum : Pair → Nat
  | .bc => 0 | .de => 1 | .hl => 2 | .sp => 3

/-- The pair number in the PSW class (R25). -/
def stackPairNum : StackPair → Nat
  | .bc => 0 | .de => 1 | .hl => 2 | .psw => 3

/-- The condition number (R38). -/
def condNum : Cond → Nat
  | .nz => 0 | .z => 1 | .nc => 2 | .c => 3 | .po => 4 | .pe => 5 | .p => 6 | .m => 7

/-- When a condition is true, on the bits of F: Z is bit 6, CY bit 0, P bit 2, S bit 7 (R30, R38). -/
def conditionTrue (cc : Cond) (f : Byte) : Bool :=
  match cc with
  | .nz => !f.getLsbD 6 | .z => f.getLsbD 6
  | .nc => !f.getLsbD 0 | .c => f.getLsbD 0
  | .po => !f.getLsbD 2 | .pe => f.getLsbD 2
  | .p => !f.getLsbD 7 | .m => f.getLsbD 7

/-- The high and the low byte of a stack pair (R23, R24). -/
def stackPairBytes (i : StackPair) (s : State) : Byte × Byte :=
  match i with
  | .bc => (s.b, s.c) | .de => (s.d, s.e) | .hl => (s.h, s.l) | .psw => (s.a, s.f)

/-- The cycles of an accumulator operation on a register (4) or on M (7) (R110). -/
def aluCycles (i : Sel) : Nat := if i = .m then 7 else 4

/-- `n` is the `CYC` after instruction `i` from `s` whose condition was `taken`: that entry of the cost table is added, which
is `cycles` in the default table (R110, R240, R337). -/
def ChargesTaken (s : State) (i : Instr) (taken : Bool) (cycles n : Nat) : Prop :=
  n = s.cyc + cycleCost s.config i.opcode taken ∧ (s.config.cycCost = defaultCycCost → n = s.cyc + cycles)

/-- `n` is the `CYC` after instruction `i` from `s`, where no rule says which of its two entries counts: one of them is added,
and both are `cycles` in the default table (R110, R337). -/
def Charges (s : State) (i : Instr) (cycles n : Nat) : Prop := ∃ taken, ChargesTaken s i taken cycles n

/-- The only effect on memory from `s` to `t` is the byte `v` at `addr`. -/
def Stores1 (s t : State) (addr : Word) (v : Byte) : Prop :=
  ∀ x, t.mem.read x = if x = addr then v else s.mem.read x

/-- The only effect on memory from `s` to `t` is the word `v` at `addr`, low byte at `addr` (R64, R68). -/
def Stores2 (s t : State) (addr v : Word) : Prop :=
  ∀ x, t.mem.read x = if x = addr then lo8 v else if x = addr + 1#16 then hi8 v else s.mem.read x

/-- The outcome of an instruction that raises `OutOfRange(0xFFFF)` (R331, R333). -/
def raisesOutOfRange (s : State) : Host.Outcome State Fault Refusal :=
  .next { s with fault := some (.outOfRange 0xFFFF#16) }

/-- The flag byte `f'` has S, Z and P from the result `r`, the given AC and CY, and IE and bits 3 and 1 of `f` (R33, R35,
R36): P is set exactly when an even number of the eight bits of `r` are 1. -/
def FlagsFrom (f' f r : Byte) (ac cy : Bool) : Prop :=
  f'.getLsbD 7 = decide (128 ≤ r.toNat) ∧ f'.getLsbD 6 = decide (r = 0#8) ∧ f'.getLsbD 5 = f.getLsbD 5 ∧
  f'.getLsbD 4 = ac ∧ f'.getLsbD 3 = f.getLsbD 3 ∧
  f'.getLsbD 2 = decide (((List.range 8).map fun k => r.toNat / 2 ^ k % 2).sum % 2 = 0) ∧
  f'.getLsbD 1 = f.getLsbD 1 ∧ f'.getLsbD 0 = cy

/-- Instruction `i`, whose bytes are `bytes`, replaces A by `result` of its operand, writes the flags S, Z, AC, P, CY and
nothing else, passes its bytes and costs `cycles`, in every state. -/
def AccumulatorOp (i : Instr) (operand : State → Byte) (bytes : List Byte) (cycles : Nat)
    (result : State → Byte → Byte) (ac cy : State → Byte → Bool) : Prop :=
  ∀ s : State, ∃ f' n, encode i = bytes ∧
    exec i s = .next { s with
      a := result s (operand s), f := f', pc := s.pc + BitVec.ofNat 16 bytes.length, cyc := n, icount := s.icount + 1 } ∧
    FlagsFrom f' s.f (result s (operand s)) (ac s (operand s)) (cy s (operand s)) ∧
    Charges s i cycles n

/-- Instruction `i` of `len` bytes goes from `s` to `t` by pushing the address after it and loading `a` into PC (R66, R240). -/
def Calls (i : Instr) (s t : State) (len a : Word) : Prop :=
  exec i s = .next t ∧ Stores2 s t (s.sp - 2#16) (s.pc + len) ∧
  { t with mem := s.mem } = { s with sp := s.sp - 2#16, pc := a, cyc := t.cyc, icount := s.icount + 1 }

/-- MOV r1,r2: instruction, destination, source (R121). -/
def movRegReg : List (Instr × Sel × Sel) := [
  (.movBB, .b, .b), (.movBC, .b, .c), (.movBD, .b, .d), (.movBE, .b, .e), (.movBH, .b, .h), (.movBL, .b, .l),
  (.movBA, .b, .a), (.movCB, .c, .b), (.movCC, .c, .c), (.movCD, .c, .d), (.movCE, .c, .e), (.movCH, .c, .h),
  (.movCL, .c, .l), (.movCA, .c, .a), (.movDB, .d, .b), (.movDC, .d, .c), (.movDD, .d, .d), (.movDE, .d, .e),
  (.movDH, .d, .h), (.movDL, .d, .l), (.movDA, .d, .a), (.movEB, .e, .b), (.movEC, .e, .c), (.movED, .e, .d),
  (.movEE, .e, .e), (.movEH, .e, .h), (.movEL, .e, .l), (.movEA, .e, .a), (.movHB, .h, .b), (.movHC, .h, .c),
  (.movHD, .h, .d), (.movHE, .h, .e), (.movHH, .h, .h), (.movHL, .h, .l), (.movHA, .h, .a), (.movLB, .l, .b),
  (.movLC, .l, .c), (.movLD, .l, .d), (.movLE, .l, .e), (.movLH, .l, .h), (.movLL, .l, .l), (.movLA, .l, .a),
  (.movAB, .a, .b), (.movAC, .a, .c), (.movAD, .a, .d), (.movAE, .a, .e), (.movAH, .a, .h), (.movAL, .a, .l),
  (.movAA, .a, .a)]

/-- MOV r,M: instruction, destination (R122). -/
def movRegMem : List (Instr × Sel) := [
  (.movBM, .b), (.movCM, .c), (.movDM, .d), (.movEM, .e), (.movHM, .h), (.movLM, .l),
  (.movAM, .a)]

/-- MOV M,r: instruction, source (R123). -/
def movMemReg : List (Instr × Sel) := [
  (.movMB, .b), (.movMC, .c), (.movMD, .d), (.movME, .e), (.movMH, .h), (.movML, .l),
  (.movMA, .a)]

/-- MVI r with immediate `d`: instruction, destination (R124). -/
def mviReg (d : Byte) : List (Instr × Sel) := [
  (.mviB d, .b), (.mviC d, .c), (.mviD d, .d), (.mviE d, .e), (.mviH d, .h), (.mviL d, .l),
  (.mviA d, .a)]

/-- LXI with immediate `v`: instruction, pair (R126). -/
def lxiForms (v : Word) : List (Instr × Pair) := [
  (.lxiB v, .bc), (.lxiD v, .de), (.lxiH v, .hl), (.lxiSP v, .sp)]

/-- ADD r and ADD M: instruction, operand. -/
def addForms : List (Instr × Sel) := [
  (.addB, .b), (.addC, .c), (.addD, .d), (.addE, .e), (.addH, .h), (.addL, .l), (.addM, .m), (.addA, .a)]

/-- ADC r and ADC M: instruction, operand. -/
def adcForms : List (Instr × Sel) := [
  (.adcB, .b), (.adcC, .c), (.adcD, .d), (.adcE, .e), (.adcH, .h), (.adcL, .l), (.adcM, .m), (.adcA, .a)]

/-- SUB r and SUB M: instruction, operand. -/
def subForms : List (Instr × Sel) := [
  (.subB, .b), (.subC, .c), (.subD, .d), (.subE, .e), (.subH, .h), (.subL, .l), (.subM, .m), (.subA, .a)]

/-- SBB r and SBB M: instruction, operand. -/
def sbbForms : List (Instr × Sel) := [
  (.sbbB, .b), (.sbbC, .c), (.sbbD, .d), (.sbbE, .e), (.sbbH, .h), (.sbbL, .l), (.sbbM, .m), (.sbbA, .a)]

/-- CMP r and CMP M: instruction, operand. -/
def cmpForms : List (Instr × Sel) := [
  (.cmpB, .b), (.cmpC, .c), (.cmpD, .d), (.cmpE, .e), (.cmpH, .h), (.cmpL, .l), (.cmpM, .m), (.cmpA, .a)]

/-- ANA r and ANA M: instruction, operand. -/
def anaForms : List (Instr × Sel) := [
  (.anaB, .b), (.anaC, .c), (.anaD, .d), (.anaE, .e), (.anaH, .h), (.anaL, .l), (.anaM, .m), (.anaA, .a)]

/-- XRA r and XRA M: instruction, operand. -/
def xraForms : List (Instr × Sel) := [
  (.xraB, .b), (.xraC, .c), (.xraD, .d), (.xraE, .e), (.xraH, .h), (.xraL, .l), (.xraM, .m), (.xraA, .a)]

/-- ORA r and ORA M: instruction, operand. -/
def oraForms : List (Instr × Sel) := [
  (.oraB, .b), (.oraC, .c), (.oraD, .d), (.oraE, .e), (.oraH, .h), (.oraL, .l), (.oraM, .m), (.oraA, .a)]

/-- INR r and INR M: instruction, operand. -/
def inrForms : List (Instr × Sel) := [
  (.inrB, .b), (.inrC, .c), (.inrD, .d), (.inrE, .e), (.inrH, .h), (.inrL, .l), (.inrM, .m), (.inrA, .a)]

/-- DCR r and DCR M: instruction, operand. -/
def dcrForms : List (Instr × Sel) := [
  (.dcrB, .b), (.dcrC, .c), (.dcrD, .d), (.dcrE, .e), (.dcrH, .h), (.dcrL, .l), (.dcrM, .m), (.dcrA, .a)]

/-- INX: instruction, pair. -/
def inxForms : List (Instr × Pair) := [
  (.inxB, .bc), (.inxD, .de), (.inxH, .hl), (.inxSP, .sp)]

/-- DCX: instruction, pair. -/
def dcxForms : List (Instr × Pair) := [
  (.dcxB, .bc), (.dcxD, .de), (.dcxH, .hl), (.dcxSP, .sp)]

/-- DAD: instruction, pair. -/
def dadForms : List (Instr × Pair) := [
  (.dadB, .bc), (.dadD, .de), (.dadH, .hl), (.dadSP, .sp)]

/-- The conditional jumps to `a`: instruction, condition. -/
def jumpForms (a : Word) : List (Instr × Cond) := [
  (.jnz a, .nz), (.jz a, .z), (.jnc a, .nc), (.jc a, .c),
  (.jpo a, .po), (.jpe a, .pe), (.jp a, .p), (.jm a, .m)]

/-- The conditional calls of `a`: instruction, condition. -/
def callForms (a : Word) : List (Instr × Cond) := [
  (.cnz a, .nz), (.cz a, .z), (.cnc a, .nc), (.cc a, .c),
  (.cpo a, .po), (.cpe a, .pe), (.cp a, .p), (.cm a, .m)]

/-- The conditional returns: instruction, condition. -/
def returnForms : List (Instr × Cond) := [
  (.rnz, .nz), (.rz, .z), (.rnc, .nc), (.rc, .c),
  (.rpo, .po), (.rpe, .pe), (.rp, .p), (.rm, .m)]

/-- RST n: instruction, n. -/
def rstForms : List (Instr × Nat) := [
  (.rst0, 0), (.rst1, 1), (.rst2, 2), (.rst3, 3), (.rst4, 4), (.rst5, 5), (.rst6, 6), (.rst7, 7)]

/-- PUSH: instruction, pair. -/
def pushForms : List (Instr × StackPair) := [
  (.pushB, .bc), (.pushD, .de), (.pushH, .hl), (.pushPSW, .psw)]

/-- POP: instruction, pair. -/
def popForms : List (Instr × StackPair) := [
  (.popB, .bc), (.popD, .de), (.popH, .hl), (.popPSW, .psw)]

/-- NOP and its synonyms: instruction, opcode byte (R312, R103). -/
def nopForms : List (Instr × Byte) := [
  (.nop, 0x00#8), (.nop08, 0x08#8), (.nop10, 0x10#8), (.nop18, 0x18#8),
  (.nop20, 0x20#8), (.nop28, 0x28#8), (.nop30, 0x30#8), (.nop38, 0x38#8)]

/-- The active flag mask of an instruction, as bits of F: the rows of the table of R37. -/
def flagMask (i : Instr) : Byte :=
  match i with
  | .daa | .addB | .addC | .addD | .addE | .addH | .addL | .addM | .addA | .adcB | .adcC | .adcD | .adcE
  | .adcH | .adcL | .adcM | .adcA | .subB | .subC | .subD | .subE | .subH | .subL | .subM | .subA | .sbbB
  | .sbbC | .sbbD | .sbbE | .sbbH | .sbbL | .sbbM | .sbbA | .anaB | .anaC | .anaD | .anaE | .anaH | .anaL
  | .anaM | .anaA | .xraB | .xraC | .xraD | .xraE | .xraH | .xraL | .xraM | .xraA | .oraB | .oraC | .oraD
  | .oraE | .oraH | .oraL | .oraM | .oraA | .cmpB | .cmpC | .cmpD | .cmpE | .cmpH | .cmpL | .cmpM | .cmpA
  | .adi _ | .aci _ | .sui _ | .sbi _ | .ani _ | .xri _ | .ori _ | .cpi _ => 0xD5#8
  | .inrB | .dcrB | .inrC | .dcrC | .inrD | .dcrD | .inrE | .dcrE | .inrH | .dcrH | .inrL | .dcrL | .inrM
  | .dcrM | .inrA | .dcrA => 0xD4#8
  | .rlc | .dadB | .rrc | .ral | .dadD | .rar | .dadH | .stc | .dadSP | .cmc => 0x01#8
  | .di | .ei => 0x20#8
  | .popPSW => 0xFF#8
  | _ => 0x00#8

/-- The general registers an instruction may write: its destinations by files 40 to 46. -/
def registersWritten (i : Instr) : List Sel :=
  match i with
  | .lxiB _ | .inxB | .dcxB | .popB => [.b, .c]
  | .inrB | .dcrB | .mviB _ | .movBB | .movBC | .movBD | .movBE | .movBH | .movBL | .movBM | .movBA => [.b]
  | .rlc | .ldaxB | .rrc | .ral | .ldaxD | .rar | .daa | .cma | .lda _ | .inrA | .dcrA | .mviA _ | .movAB
  | .movAC | .movAD | .movAE | .movAH | .movAL | .movAM | .movAA | .addB | .addC | .addD | .addE | .addH
  | .addL | .addM | .addA | .adcB | .adcC | .adcD | .adcE | .adcH | .adcL | .adcM | .adcA | .subB | .subC
  | .subD | .subE | .subH | .subL | .subM | .subA | .sbbB | .sbbC | .sbbD | .sbbE | .sbbH | .sbbL | .sbbM
  | .sbbA | .anaB | .anaC | .anaD | .anaE | .anaH | .anaL | .anaM | .anaA | .xraB | .xraC | .xraD | .xraE
  | .xraH | .xraL | .xraM | .xraA | .oraB | .oraC | .oraD | .oraE | .oraH | .oraL | .oraM | .oraA | .adi _
  | .aci _ | .sui _ | .inp _ | .sbi _ | .ani _ | .xri _ | .popPSW | .ori _ => [.a]
  | .dadB | .dadD | .lxiH _ | .inxH | .dadH | .lhld _ | .dcxH | .dadSP | .popH | .xthl => [.h, .l]
  | .inrC | .dcrC | .mviC _ | .movCB | .movCC | .movCD | .movCE | .movCH | .movCL | .movCM | .movCA => [.c]
  | .lxiD _ | .inxD | .dcxD | .popD => [.d, .e]
  | .inrD | .dcrD | .mviD _ | .movDB | .movDC | .movDD | .movDE | .movDH | .movDL | .movDM | .movDA => [.d]
  | .inrE | .dcrE | .mviE _ | .movEB | .movEC | .movED | .movEE | .movEH | .movEL | .movEM | .movEA => [.e]
  | .inrH | .dcrH | .mviH _ | .movHB | .movHC | .movHD | .movHE | .movHH | .movHL | .movHM | .movHA => [.h]
  | .inrL | .dcrL | .mviL _ | .movLB | .movLC | .movLD | .movLE | .movLH | .movLL | .movLM | .movLA => [.l]
  | .xchg => [.d, .e, .h, .l]
  | _ => []

/-- Whether an instruction may write SP: the list of R26. -/
def writesSp (i : Instr) : Bool :=
  match i with
  | .lxiSP _ | .inxSP | .dcxSP | .rnz | .popB | .cnz _ | .pushB | .rst0 | .rz | .ret | .cz _ | .call _ | .rst1
  | .rnc | .popD | .cnc _ | .pushD | .rst2 | .rc | .retD9 | .cc _ | .callDD _ | .rst3 | .rpo | .popH | .cpo _
  | .pushH | .rst4 | .rpe | .cpe _ | .callED _ | .rst5 | .rp | .popPSW | .cp _ | .pushPSW | .rst6 | .rm | .sphl
  | .cm _ | .callFD _ | .rst7 => true
  | _ => false

/-- The bytes of a word stored at `a`, each with its address: the low byte lies lower (R68). -/
def wordBytes (a : Word) (hi lo : Byte) : List (Word × Byte) := [(a, lo), (a + 1#16, hi)]

/-- The bytes a push of `v` stores, each with its address (R66). -/
def pushedBytes (s : State) (v : Word) : List (Word × Byte) := wordBytes (s.sp - 2#16) (hi8 v) (lo8 v)

/-- The bytes an instruction stores, each with its address, computed in the state it starts in (R70). -/
def storedBytes (i : Instr) (s : State) : List (Word × Byte) :=
  match i with
  | .movMB => [(s.hl, s.b)]
  | .movMC => [(s.hl, s.c)]
  | .movMD => [(s.hl, s.d)]
  | .movME => [(s.hl, s.e)]
  | .movMH => [(s.hl, s.h)]
  | .movML => [(s.hl, s.l)]
  | .movMA => [(s.hl, s.a)]
  | .mviM d => [(s.hl, d)]
  | .inrM => [(s.hl, s.mem.read s.hl + 1#8)]
  | .dcrM => [(s.hl, s.mem.read s.hl - 1#8)]
  | .staxB => [(s.bc, s.a)]
  | .staxD => [(s.de, s.a)]
  | .sta a => [(a, s.a)]
  | .shld a => wordBytes a s.h s.l
  | .xthl => wordBytes s.sp s.h s.l
  | .pushB => pushedBytes s (word s.b s.c)
  | .pushD => pushedBytes s (word s.d s.e)
  | .pushH => pushedBytes s (word s.h s.l)
  | .pushPSW => pushedBytes s (word s.a s.f)
  | .call _ | .callDD _ | .callED _ | .callFD _ => pushedBytes s (s.pc + 3#16)
  | .rst0 | .rst1 | .rst2 | .rst3 | .rst4 | .rst5 | .rst6 | .rst7 => pushedBytes s (s.pc + 1#16)
  | .cnz _ => if condHolds .nz s.f then pushedBytes s (s.pc + 3#16) else []
  | .cz _ => if condHolds .z s.f then pushedBytes s (s.pc + 3#16) else []
  | .cnc _ => if condHolds .nc s.f then pushedBytes s (s.pc + 3#16) else []
  | .cc _ => if condHolds .c s.f then pushedBytes s (s.pc + 3#16) else []
  | .cpo _ => if condHolds .po s.f then pushedBytes s (s.pc + 3#16) else []
  | .cpe _ => if condHolds .pe s.f then pushedBytes s (s.pc + 3#16) else []
  | .cp _ => if condHolds .p s.f then pushedBytes s (s.pc + 3#16) else []
  | .cm _ => if condHolds .m s.f then pushedBytes s (s.pc + 3#16) else []
  | _ => []

/-- The addresses of the bytes an instruction stores to (R70). -/
def storedAddresses (i : Instr) (s : State) : List Word := (storedBytes i s).map Prod.fst

/-- When an instruction raises `OutOfRange`: the table of R331. -/
def outOfRangeWhen (i : Instr) (s : State) : Prop :=
  match i with
  | .lxiB _ | .lxiD _ | .lxiH _ | .lxiSP _ | .sta _ | .lda _ | .jnz _ | .jmp _ | .jz _ | .jmpCB _ | .jnc _
  | .jc _ | .jpo _ | .jpe _ | .jp _ | .jm _ => s.pc = 0xFFFE#16
  | .lhld a | .shld a => s.pc = 0xFFFE#16 ∨ a = 0xFFFF#16
  | .call _ | .callDD _ | .callED _ | .callFD _ => s.pc = 0xFFFE#16 ∨ s.sp = 0x0001#16
  | .cnz _ => s.pc = 0xFFFE#16 ∨ condHolds .nz s.f = true ∧ s.sp = 0x0001#16
  | .cz _ => s.pc = 0xFFFE#16 ∨ condHolds .z s.f = true ∧ s.sp = 0x0001#16
  | .cnc _ => s.pc = 0xFFFE#16 ∨ condHolds .nc s.f = true ∧ s.sp = 0x0001#16
  | .cc _ => s.pc = 0xFFFE#16 ∨ condHolds .c s.f = true ∧ s.sp = 0x0001#16
  | .cpo _ => s.pc = 0xFFFE#16 ∨ condHolds .po s.f = true ∧ s.sp = 0x0001#16
  | .cpe _ => s.pc = 0xFFFE#16 ∨ condHolds .pe s.f = true ∧ s.sp = 0x0001#16
  | .cp _ => s.pc = 0xFFFE#16 ∨ condHolds .p s.f = true ∧ s.sp = 0x0001#16
  | .cm _ => s.pc = 0xFFFE#16 ∨ condHolds .m s.f = true ∧ s.sp = 0x0001#16
  | .pushB | .rst0 | .rst1 | .pushD | .rst2 | .rst3 | .pushH | .rst4 | .rst5 | .pushPSW | .rst6 | .rst7 => s.sp = 0x0001#16
  | .popB | .ret | .popD | .retD9 | .popH | .xthl | .popPSW => s.sp = 0xFFFF#16
  | .rnz => condHolds .nz s.f = true ∧ s.sp = 0xFFFF#16
  | .rz => condHolds .z s.f = true ∧ s.sp = 0xFFFF#16
  | .rnc => condHolds .nc s.f = true ∧ s.sp = 0xFFFF#16
  | .rc => condHolds .c s.f = true ∧ s.sp = 0xFFFF#16
  | .rpo => condHolds .po s.f = true ∧ s.sp = 0xFFFF#16
  | .rpe => condHolds .pe s.f = true ∧ s.sp = 0xFFFF#16
  | .rp => condHolds .p s.f = true ∧ s.sp = 0xFFFF#16
  | .rm => condHolds .m s.f = true ∧ s.sp = 0xFFFF#16
  | _ => False

/-- Whether the condition of a conditional jump, call or return holds; none for every other instruction (R38, R240). -/
def conditionHeld (i : Instr) (s : State) : Option Bool :=
  match i with
  | .jnz _ | .cnz _ | .rnz => some (condHolds .nz s.f)
  | .jz _ | .cz _ | .rz => some (condHolds .z s.f)
  | .jnc _ | .cnc _ | .rnc => some (condHolds .nc s.f)
  | .jc _ | .cc _ | .rc => some (condHolds .c s.f)
  | .jpo _ | .cpo _ | .rpo => some (condHolds .po s.f)
  | .jpe _ | .cpe _ | .rpe => some (condHolds .pe s.f)
  | .jp _ | .cp _ | .rp => some (condHolds .p s.f)
  | .jm _ | .cm _ | .rm => some (condHolds .m s.f)
  | _ => none

/-- The cost of an instruction with its condition false and true: the rows of the second table of R110. -/
def classCost (i : Instr) : Nat × Nat :=
  match i with
  | .movBM | .movCM | .movDM | .movEM | .movHM | .movLM | .movMB | .movMC | .movMD | .movME | .movMH | .movML
  | .movMA | .movAM => (7, 7)
  | .movBB | .movBC | .movBD | .movBE | .movBH | .movBL | .movBA | .movCB | .movCC | .movCD | .movCE | .movCH
  | .movCL | .movCA | .movDB | .movDC | .movDD | .movDE | .movDH | .movDL | .movDA | .movEB | .movEC | .movED
  | .movEE | .movEH | .movEL | .movEA | .movHB | .movHC | .movHD | .movHE | .movHH | .movHL | .movHA | .movLB
  | .movLC | .movLD | .movLE | .movLH | .movLL | .movLA | .movAB | .movAC | .movAD | .movAE | .movAH | .movAL
  | .movAA => (5, 5)
  | .mviM _ => (10, 10)
  | .mviB _ | .mviC _ | .mviD _ | .mviE _ | .mviH _ | .mviL _ | .mviA _ => (7, 7)
  | .inrM | .dcrM => (10, 10)
  | .inrB | .dcrB | .inrC | .dcrC | .inrD | .dcrD | .inrE | .dcrE | .inrH | .dcrH | .inrL | .dcrL | .inrA
  | .dcrA => (5, 5)
  | .addM | .adcM | .subM | .sbbM | .anaM | .xraM | .oraM | .cmpM => (7, 7)
  | .addB | .addC | .addD | .addE | .addH | .addL | .addA | .adcB | .adcC | .adcD | .adcE | .adcH | .adcL
  | .adcA | .subB | .subC | .subD | .subE | .subH | .subL | .subA | .sbbB | .sbbC | .sbbD | .sbbE | .sbbH
  | .sbbL | .sbbA | .anaB | .anaC | .anaD | .anaE | .anaH | .anaL | .anaA | .xraB | .xraC | .xraD | .xraE
  | .xraH | .xraL | .xraA | .oraB | .oraC | .oraD | .oraE | .oraH | .oraL | .oraA | .cmpB | .cmpC | .cmpD
  | .cmpE | .cmpH | .cmpL | .cmpA => (4, 4)
  | .adi _ | .aci _ | .sui _ | .sbi _ | .ani _ | .xri _ | .ori _ | .cpi _ => (7, 7)
  | .lxiB _ | .lxiD _ | .lxiH _ | .lxiSP _ => (10, 10)
  | .staxB | .ldaxB | .staxD | .ldaxD => (7, 7)
  | .sta _ | .lda _ => (13, 13)
  | .shld _ | .lhld _ => (16, 16)
  | .xchg => (4, 4)
  | .xthl => (18, 18)
  | .pchl | .sphl => (5, 5)
  | .inxB | .dcxB | .inxD | .dcxD | .inxH | .dcxH | .inxSP | .dcxSP => (5, 5)
  | .dadB | .dadD | .dadH | .dadSP => (10, 10)
  | .rlc | .rrc | .ral | .rar | .daa | .cma | .stc | .cmc => (4, 4)
  | .jnz _ | .jmp _ | .jz _ | .jmpCB _ | .jnc _ | .jc _ | .jpo _ | .jpe _ | .jp _ | .jm _ => (10, 10)
  | .call _ | .callDD _ | .callED _ | .callFD _ => (17, 17)
  | .cnz _ | .cz _ | .cnc _ | .cc _ | .cpo _ | .cpe _ | .cp _ | .cm _ => (11, 17)
  | .ret | .retD9 => (10, 10)
  | .rnz | .rz | .rnc | .rc | .rpo | .rpe | .rp | .rm => (5, 11)
  | .rst0 | .rst1 | .rst2 | .rst3 | .rst4 | .rst5 | .rst6 | .rst7 => (11, 11)
  | .pushB | .pushD | .pushH | .pushPSW => (11, 11)
  | .popB | .popD | .popH | .popPSW => (10, 10)
  | .outp _ | .inp _ => (10, 10)
  | .nop | .nop08 | .nop10 | .nop18 | .nop20 | .nop28 | .nop30 | .nop38 | .di | .ei => (4, 4)
  | _ => (0, 0)

end Sys2Proof.Claims

section
open Sys2Proof Sys2Proof.Machine

/-! ### Whole-machine statements -/

/-- Decoding the bytes of any instruction, with every operand value, whatever bytes follow, gives the instruction and
the bytes that follow (formats R90, immediates R94, map R100, which the spec marks as general knowledge). -/
def Obligations.DecodeInvertsEncode : Prop :=
  ∀ (i : Instr) (rest : List Byte), decode (encode i ++ rest) = .ok (i, rest)

/-- The other direction: the bytes of the instruction read from the front of any list of bytes, followed by the bytes
left over, are that list; so no two byte sequences are the same instruction and no bit is dropped (R90; the map R100
is marked as general knowledge). -/
def Obligations.EncodeInvertsDecode : Prop :=
  ∀ (bytes rest : List Byte) (i : Instr), decode bytes = .ok (i, rest) → encode i ++ rest = bytes

/-- Words written out from the bit patterns of R100, one or two of each family, decode to the instructions they stand
for (R100 is marked as general knowledge). -/
def Obligations.WrittenWordsDecode : Prop :=
  decode [0b01111000#8] = .ok (.movAB, []) ∧                                        -- 01dddsss, d = 7, s = 0
  decode [0b01110101#8] = .ok (.movML, []) ∧                                        -- 01dddsss, d = 6, s = 5
  decode [0b00001110#8, 0x5A#8] = .ok (.mviC 0x5A#8, []) ∧                          -- 00ddd110, d = 1
  decode [0b00100001#8, 0x34#8, 0x12#8] = .ok (.lxiH 0x1234#16, []) ∧               -- 00pp0001, p = 2
  decode [0b10011110#8] = .ok (.sbbM, []) ∧                                         -- 10aaasss, a = 3, s = 6
  decode [0b11101110#8, 0xFF#8] = .ok (.xri 0xFF#8, []) ∧                           -- 11aaa110, a = 5
  decode [0b11011010#8, 0x00#8, 0x02#8] = .ok (.jc 0x0200#16, []) ∧                 -- 11ccc010, c = 3
  decode [0b11110100#8, 0x00#8, 0x06#8] = .ok (.cp 0x0600#16, []) ∧                 -- 11ccc100, c = 6
  decode [0b11101000#8] = .ok (.rpe, []) ∧                                          -- 11ccc000, c = 5
  decode [0b11010111#8] = .ok (.rst2, []) ∧                                         -- 11nnn111, n = 2
  decode [0b11110101#8] = .ok (.pushPSW, []) ∧                                      -- 11pp0101, p = 3
  decode [0b11010011#8, 0x04#8] = .ok (.outp 0x04#8, []) ∧
  decode [0b11111011#8] = .ok (.ei, []) ∧
  decode [0b00101000#8] = .ok (.nop28, [])

/-- The number of bytes of an instruction is a function of its opcode byte, and that function is the lists of R105
(marked as general knowledge). -/
def Obligations.LengthFromOpcode : Prop :=
  (∀ i : Instr, (encode i).length = opLength i.opcode) ∧
  ∀ op : Byte,
    (opLength op = 3 ↔
      op.toNat < 64 ∧ op.toNat % 16 = 1 ∨ op ∈ [0x22#8, 0x2A#8, 0x32#8, 0x3A#8] ∨
      192 ≤ op.toNat ∧ (op.toNat % 8 = 2 ∨ op.toNat % 8 = 4) ∨
      op ∈ [0xC3#8, 0xCB#8, 0xCD#8, 0xDD#8, 0xED#8, 0xFD#8]) ∧
    (opLength op = 2 ↔
      op.toNat < 64 ∧ op.toNat % 8 = 6 ∨ 192 ≤ op.toNat ∧ op.toNat % 8 = 6 ∨ op ∈ [0xD3#8, 0xDB#8]) ∧
    (opLength op = 1 ∨ opLength op = 2 ∨ opLength op = 3)

/-- When the interrupt check raises nothing and the three bytes at the program counter it leaves decode to an
instruction whose opcode is assigned, the step is `exec` of that instruction in the state the check left (R337, R338).
The premise on the parameters is the model's (log 12). -/
def Obligations.StepRunsDecodedInstruction : Prop :=
  ∀ (s t : State) (i : Instr) (rest : List Byte),
    s.fault = none → s.config.wf = true → interruptCheck s = .ok t →
    decode [t.mem.read t.pc, t.mem.read (t.pc + 1#16), t.mem.read (t.pc + 2#16)] = .ok (i, rest) →
    i.wf t.config = true → step s = exec i t

/-- In a state whose `FAULT` latch is set no step has a next state (R44, R333): it answers the fault outcome that
names the latched fault, which is the model's way to say that no step is possible (log 1). So a step that answers a
next state started with the latch `none`. -/
def Obligations.LatchedFaultStopsCore : Prop :=
  (∀ (s : State) (f : FatalFault), s.fault = some f → step s = .fault (.stopped f)) ∧
  ∀ s t : State, step s = .next t → s.fault = none

/-- If an instruction started with the latch `none` and ends with a fault latched, every register, F, SP, PC, memory,
the Port Bank, `CYC`, `ICOUNT` and every other field are as before (R333, decision D21 of the spec). -/
def Obligations.FaultingInstructionWritesNothing : Prop :=
  ∀ (i : Instr) (s t : State) (f : FatalFault), s.fault = none → exec i s = .next t → t.fault = some f →
    t = { s with fault := some f }

/-- An instruction raises `OutOfRange` exactly in the cases the table of R331 lists for it, and the address is always
0xFFFF (decision D14 of the spec). -/
def Obligations.OutOfRangeExactlyByTable : Prop :=
  ∀ (i : Instr) (s : State), s.fault = none →
    ((∃ t a, exec i s = .next t ∧ t.fault = some (.outOfRange a)) ↔ Claims.outOfRangeWhen i s) ∧
    ∀ t a, exec i s = .next t → t.fault = some (.outOfRange a) → a = 0xFFFF#16

/-- Every instruction but the unassigned byte answers a next state, in every state, and the latch then holds
`OutOfRange(0xFFFF)` or what it held (R335). So a core whose latch is `none`, under parameters that meet the spec's
constraints and leave 0x76 unassigned, always takes a step: there is no halt, wait or stuck state (R361). The premises
on the parameters are the model's (log 11, log 12). -/
def Obligations.NoOtherErrorExists : Prop :=
  (∀ (i : Instr) (s : State), i ≠ .unassigned76 →
    ∃ t, exec i s = .next t ∧ (t.fault = s.fault ∨ t.fault = some (.outOfRange 0xFFFF#16))) ∧
  ∀ s : State, s.fault = none → s.config.wf = true → 0x76#8 ∈ s.config.unassignedOpcodes → ∃ t, step s = .next t

/-- Every instruction that raises nothing adds an entry `CYC_COST[op][taken]` of the cost table to `CYC` and 1 to
`ICOUNT`; for a conditional jump, call or return `taken` is whether its condition held (R337, R240). For every other
instruction the statement leaves open which of the two entries, equal in the spec's table, is added (log 14). -/
def Obligations.CompletedInstructionIsCharged : Prop :=
  ∀ (i : Instr) (s t : State), s.fault = none → exec i s = .next t → t.fault = none →
    t.icount = s.icount + 1 ∧
    (∃ taken, t.cyc = s.cyc + cycleCost s.config i.opcode taken) ∧
    ∀ held, Claims.conditionHeld i s = some held → t.cyc = s.cyc + cycleCost s.config i.opcode held

/-- Under the default table every assigned opcode has, not taken and taken, the cost of its class in R110 (marked as
general knowledge, decision D13 of the spec). -/
def Obligations.DefaultCostsByClass : Prop :=
  ∀ (i : Instr) (c : Config), c.cycCost = defaultCycCost → i ≠ .unassigned76 →
    (cycleCost c i.opcode false, cycleCost c i.opcode true) = Claims.classCost i

/-- With another cost table `exec` leaves the same state but for `CYC` and the table itself (R403). That the table
stands in the state is the model's choice (log 2). -/
def Obligations.CostsAffectOnlyCycleCounter : Prop :=
  ∀ (i : Instr) (s t : State) (table : List (Nat × Nat)), exec i s = .next t →
    ∃ n, exec i { s with config := { s.config with cycCost := table } } =
      .next { t with cyc := n, config := { t.config with cycCost := table } }

/-- An instruction leaves every bit of F outside its active flag mask as it was, bits 3 and 1 included (R33; the masks
of R37 are marked as general knowledge); so no instruction but EI, DI and POP PSW changes `F.IE`, and no interrupt
check or dispatch changes F (R31, R32; decisions D6, D11 of the spec). -/
def Obligations.FlagsOutsideMaskKept : Prop :=
  (∀ (i : Instr) (s t : State), exec i s = .next t →
    t.f &&& ~~~(Claims.flagMask i) = s.f &&& ~~~(Claims.flagMask i) ∧
    (i ≠ .ei → i ≠ .di → i ≠ .popPSW → getFlag t.f .ie = getFlag s.f .ie)) ∧
  ∀ s t : State, interruptCheck s = .ok t → t.f = s.f

/-- A general register that is not a destination of the instruction is unchanged, and SP is changed only by the
instructions of R26's list. -/
def Obligations.RegisterFrame : Prop :=
  ∀ (i : Instr) (s t : State), exec i s = .next t →
    (∀ r : Sel, r ≠ .m → r ∉ Claims.registersWritten i → readSel r t = readSel r s) ∧
    (Claims.writesSp i = false → t.sp = s.sp)

/-- Every byte outside the bytes an instruction stores to, at the addresses computed from the state it starts in (HL,
BC, DE, the immediate address, SP), reads as before; an instruction that stores nothing leaves every byte (R70, R62).
-/
def Obligations.MemoryFrame : Prop :=
  ∀ (i : Instr) (s t : State), exec i s = .next t →
    ∀ x : Word, x ∉ Claims.storedAddresses i s → t.mem.read x = s.mem.read x

/-- No instruction changes `SW1`, `SW2` or `LAST`, and none but OUT changes the shift register, its amount or `ACK`
(R42, R46). No instruction changes the model's own fields: the parameters, the host's inputs and their count, the
frames (log 2, log 7, log 8). -/
def Obligations.PortAndControlFrame : Prop :=
  ∀ (i : Instr) (s t : State), exec i s = .next t →
    t.sw1 = s.sw1 ∧ t.sw2 = s.sw2 ∧ t.last = s.last ∧ t.config = s.config ∧ t.inputs = s.inputs ∧ t.draws = s.draws ∧
    t.frames = s.frames ∧
    ((∀ d, i ≠ .outp d) → t.shiftHi = s.shiftHi ∧ t.shiftLo = s.shiftLo ∧ t.shiftAmt = s.shiftAmt ∧ t.ack = s.ack)

/-- Writing an operand by selector: a register operand reads back, every other register operand is unchanged, memory
changes at HL alone and only for M, and no other field changes (R22). -/
def Obligations.OperandWriteFrame : Prop :=
  ∀ (i : Sel) (v : Byte) (s : State),
    (i ≠ .m → readSel i (writeSel i v s) = v) ∧
    (∀ j : Sel, j ≠ i → j ≠ .m → readSel j (writeSel i v s) = readSel j s) ∧
    (∀ x : Word, (writeSel i v s).mem.read x = if i = .m ∧ x = s.hl then v else s.mem.read x) ∧
    { writeSel i v s with a := s.a, b := s.b, c := s.c, d := s.d, e := s.e, h := s.h, l := s.l, mem := s.mem } = s

/-! ### Interrupts, reset, invariants -/

/-- The check does nothing while `CYC` does not exceed the budget; above it with IE clear it subtracts the budget once
and does nothing else (R338, R341); above it with IE set and a push that would fault, the step writes nothing but the
latch (R333, R338). -/
def Obligations.CheckWithoutDispatch : Prop :=
  ∀ s : State,
    (s.cyc ≤ s.config.cycleBudget → interruptCheck s = .ok s) ∧
    (s.cyc > s.config.cycleBudget → getFlag s.f .ie = false →
      interruptCheck s = .ok { s with cyc := s.cyc - s.config.cycleBudget }) ∧
    (s.fault = none → s.config.wf = true → s.cyc > s.config.cycleBudget → getFlag s.f .ie = true →
      s.sp = 0x0001#16 → step s = .next { s with fault := some (.outOfRange 0xFFFF#16) })

/-- A dispatch pushes PC as one little-endian word, latches the other phase, loads its vector and keeps the remainder
of `CYC`; on END alone it samples the host's next pair and hands over the video range as it then stands. Registers, F
with IE, `ICOUNT` and everything else are unchanged (R340, R343, R344; decisions D11, D12 of the spec). The list the
pairs come from and the list of frames are the model's (log 7, log 8). -/
def Obligations.DispatchEffect : Prop :=
  ∀ s : State, s.cyc > s.config.cycleBudget → getFlag s.f .ie = true → s.sp ≠ 0x0001#16 →
    ∃ t, interruptCheck s = .ok t ∧ Claims.Stores2 s t (s.sp - 2#16) s.pc ∧
      (s.last = .endPhase →
        { t with mem := s.mem } = { s with
          sp := s.sp - 2#16, pc := s.config.vecMid, last := .midPhase, cyc := s.cyc - s.config.cycleBudget }) ∧
      (s.last = .midPhase →
        { t with mem := s.mem } = { s with
          sp := s.sp - 2#16, pc := s.config.vecEnd, last := .endPhase, cyc := s.cyc - s.config.cycleBudget
          sw1 := (nextSwitches s).1, sw2 := (nextSwitches s).2, inputs := s.inputs.tail, draws := s.draws + 1
          frames := t.frames } ∧
        ∃ frame, t.frames = frame :: s.frames ∧ frame.length = s.config.vramSize ∧
          ∀ k, k < s.config.vramSize → frame[k]? = some (t.mem.read (s.config.vramBase + BitVec.ofNat 16 k)))

/-- Over a whole step from any state: `LAST` changes exactly when the check dispatched, to the other phase (R345); and
the switch bytes and the frames change only when that dispatch is an END dispatch (R343, R400). So do the model's
lists of the host's inputs (log 7). -/
def Obligations.PhasesAlternateAndInputOnlyAtEnd : Prop :=
  ∀ s t : State, step s = .next t →
    (t.last = if s.cyc > s.config.cycleBudget ∧ getFlag s.f .ie = true ∧ s.sp ≠ 0x0001#16 then s.last.other
      else s.last) ∧
    (¬(s.last = .midPhase ∧ t.last = .endPhase) →
      t.sw1 = s.sw1 ∧ t.sw2 = s.sw2 ∧ t.inputs = s.inputs ∧ t.draws = s.draws ∧ t.frames = s.frames)

/-- The state after reset, field by field, with the defaults of R8 (R49, R380: PC is the source's; the others are
decisions D7 and D8 of the spec, log 3 to log 5); memory lists nothing (log 6). At every launch with well-formed
parameters PC, SP, F, the counters and the latches have those values, the first check has no effect, and the first
step is one instruction fetched at 0x0000 (R383). -/
def Obligations.ResetState : Prop :=
  (let s := State.reset
   s.pc = 0x0000#16 ∧ s.sp = 0x2400#16 ∧
   s.a = 0#8 ∧ s.b = 0#8 ∧ s.c = 0#8 ∧ s.d = 0#8 ∧ s.e = 0#8 ∧ s.h = 0#8 ∧ s.l = 0#8 ∧ s.f = 0#8 ∧
   s.cyc = 0 ∧ s.last = .midPhase ∧ s.icount = 0 ∧ s.fault = none ∧
   s.sw1 = 0#8 ∧ s.sw2 = 0#8 ∧ s.shiftHi = 0#8 ∧ s.shiftLo = 0#8 ∧ s.shiftAmt = 0#3 ∧ s.ack = 0#8 ∧
   s.mem = [] ∧ s.config = defaultConfig) ∧
  ∀ (c : Config) (image : List (Word × List Byte)) (inputs : List (Byte × Byte)), c.wf = true →
    let s := launch c image inputs
    s.pc = 0x0000#16 ∧ s.sp = c.spReset ∧ s.f = 0#8 ∧ s.cyc = 0 ∧ s.last = .midPhase ∧ s.icount = 0 ∧ s.fault = none ∧
    interruptCheck s = .ok s ∧ step s = runInstruction s

/-- The invariant (memory in its canonical form, log 6; parameters that meet the spec's constraints, log 12; no cost
above 18; `CYC` at most `CYCLE_BUDGET + 18`, R41) holds after reset and at every launch whose parameters meet it. -/
def Obligations.InvariantAtLaunch : Prop :=
  Inv State.reset ∧
  ∀ (c : Config) (image : List (Word × List Byte)) (inputs : List (Byte × Byte)), c.wf = true → CostsBounded c →
    Inv (launch c image inputs)

/-- From every state that meets the invariant, a step that answers a next state keeps it: memory stays in its
canonical form (log 6), the parameters do not change (log 2) and stay well formed, and `CYC` never exceeds
`CYCLE_BUDGET + 18` (R41, which the spec marks as derived). -/
def Obligations.StepKeepsInvariant : Prop :=
  ∀ s t : State, Inv s → step s = .next t → Inv t ∧ t.config = s.config

/-- Two states that differ only in the switch pairs still to come take the same step but for the pairs, unless that
step makes an END dispatch (R405, R343). The list and the count of pairs are the model's form of the host's sequence
(log 7). -/
def Obligations.InputsMatterOnlyAtEndDispatch : Prop :=
  ∀ (s t : State) (inputs : List (Byte × Byte)) (draws : Nat), step s = .next t → t.draws = s.draws →
    step { s with inputs := inputs, draws := draws } = .next { t with inputs := inputs, draws := draws }

/-- After any instruction that completes, the fetch of the instruction its PC then names reads what it stored: the
opcode byte, and the decode fault where that byte is unassigned, and the two bytes after it (R77, R398, which the spec
marks as derived). Every storing instruction is covered, with every byte it stores (R66, R70). -/
def Obligations.StoreSeenByNextFetch : Prop :=
  ∀ (i : Instr) (s t : State), s.fault = none → exec i s = .next t → t.fault = none →
    ∀ p ∈ Claims.storedBytes i s,
      let b0 := t.mem.read t.pc
      let b1 := t.mem.read (t.pc + 1#16)
      let b2 := t.mem.read (t.pc + 2#16)
      (p.1 = t.pc → p.2 ∈ t.config.unassignedOpcodes → fetch t = .error (.decodeFault t.pc p.2)) ∧
      (p.1 = t.pc → p.2 ∉ t.config.unassignedOpcodes → fetch t = .ok (decodeBytes p.2 b1 b2)) ∧
      (p.1 = t.pc + 1#16 → b0 ∉ t.config.unassignedOpcodes → fetch t = .ok (decodeBytes b0 p.2 b2)) ∧
      (p.1 = t.pc + 2#16 → b0 ∉ t.config.unassignedOpcodes → fetch t = .ok (decodeBytes b0 b1 p.2))

/-- A running state has no diagnostic; that of a stopped state holds the fault, PC, SP, the seven registers, the six
named flags, `ICOUNT`, and as stack top the word at SP read byte by byte with wrapping addresses (R334; decision D33
of the spec). -/
def Obligations.DiagnosticOfStoppedState : Prop :=
  ∀ s : State,
    (s.fault = none → diagnostic s = none) ∧
    ∀ f, s.fault = some f → ∃ g, diagnostic s = some g ∧ g.fault = f ∧ g.pc = s.pc ∧ g.sp = s.sp ∧ g.icount = s.icount ∧
      [g.a, g.b, g.c, g.d, g.e, g.h, g.l] = [s.a, s.b, s.c, s.d, s.e, s.h, s.l] ∧
      [g.flagS, g.flagZ, g.flagIE, g.flagAC, g.flagP, g.flagCY] =
        [s.f.getLsbD 7, s.f.getLsbD 6, s.f.getLsbD 5, s.f.getLsbD 4, s.f.getLsbD 2, s.f.getLsbD 0] ∧
      lo8 g.stackTop = s.mem.read s.sp ∧ hi8 g.stackTop = s.mem.read (s.sp + 1#16)

/-! ### Data transfer (40_data_transfer.md) -/

/-- R121, R122. MOV r1,r2, all 49 forms, and MOV r,M, which loads the byte at the old HL: encoding, next state and
cost. -/
def Obligations.MovToRegister : Prop :=
  (∀ p ∈ Claims.movRegReg, ∀ s : State, ∃ n,
    encode p.1 = [BitVec.ofNat 8 (0x40 + 8 * Claims.selNum p.2.1 + Claims.selNum p.2.2)] ∧
    exec p.1 s = .next { writeSel p.2.1 (readSel p.2.2 s) s with pc := s.pc + 1#16, cyc := n, icount := s.icount + 1 } ∧
    Claims.Charges s p.1 5 n) ∧
  ∀ p ∈ Claims.movRegMem, ∀ s : State, ∃ n,
    encode p.1 = [BitVec.ofNat 8 (0x46 + 8 * Claims.selNum p.2)] ∧
    exec p.1 s = .next
      { writeSel p.2 (s.mem.read s.hl) s with pc := s.pc + 1#16, cyc := n, icount := s.icount + 1 } ∧
    Claims.Charges s p.1 7 n

/-- R123. MOV M,r, all seven forms: the byte at HL becomes the register, every other byte reads as before, and no
other field but PC, `CYC` and `ICOUNT` changes. -/
def Obligations.MovRegisterToMemory : Prop :=
  ∀ p ∈ Claims.movMemReg, ∀ s : State, ∃ t,
    encode p.1 = [BitVec.ofNat 8 (0x70 + Claims.selNum p.2)] ∧
    exec p.1 s = .next t ∧ Claims.Stores1 s t s.hl (readSel p.2 s) ∧
    { t with mem := s.mem } = { s with pc := s.pc + 1#16, cyc := t.cyc, icount := s.icount + 1 } ∧
    Claims.Charges s p.1 7 t.cyc

/-- R124, R125. MVI r, all seven forms, and MVI M: encoding, next state and cost. -/
def Obligations.MoveImmediate : Prop :=
  ∀ d : Byte,
    (∀ p ∈ Claims.mviReg d, ∀ s : State, ∃ n,
      encode p.1 = [BitVec.ofNat 8 (0x06 + 8 * Claims.selNum p.2), d] ∧
      exec p.1 s = .next { writeSel p.2 d s with pc := s.pc + 2#16, cyc := n, icount := s.icount + 1 } ∧
      Claims.Charges s p.1 7 n) ∧
    ∀ s : State, ∃ t,
      encode (.mviM d) = [0x36#8, d] ∧
      exec (.mviM d) s = .next t ∧ Claims.Stores1 s t s.hl d ∧
      { t with mem := s.mem } = { s with pc := s.pc + 2#16, cyc := t.cyc, icount := s.icount + 1 } ∧
      Claims.Charges s (.mviM d) 10 t.cyc

/-- R126. LXI, all four forms: byte 3 goes to the high register, byte 2 to the low; `OutOfRange` when `pc0` is 0xFFFE.
-/
def Obligations.LoadPairImmediate : Prop :=
  ∀ (hi lo : Byte), ∀ p ∈ Claims.lxiForms (word hi lo), ∀ s : State,
    encode p.1 = [BitVec.ofNat 8 (0x01 + 16 * Claims.pairNum p.2), lo, hi] ∧
    (s.pc ≠ 0xFFFE#16 → ∃ t, exec p.1 s = .next t ∧ Claims.Charges s p.1 10 t.cyc ∧
      (p.2 = .bc → t = { s with b := hi, c := lo, pc := s.pc + 3#16, cyc := t.cyc, icount := s.icount + 1 }) ∧
      (p.2 = .de → t = { s with d := hi, e := lo, pc := s.pc + 3#16, cyc := t.cyc, icount := s.icount + 1 }) ∧
      (p.2 = .hl → t = { s with h := hi, l := lo, pc := s.pc + 3#16, cyc := t.cyc, icount := s.icount + 1 }) ∧
      (p.2 = .sp → t = { s with sp := word hi lo, pc := s.pc + 3#16, cyc := t.cyc, icount := s.icount + 1 })) ∧
    (s.pc = 0xFFFE#16 → exec p.1 s = Claims.raisesOutOfRange s)

/-- R127, R128, R131, R132. LDA and STA through the immediate address, LDAX and STAX through BC and DE: encoding, next
state, cost, and for LDA and STA `OutOfRange` when `pc0` is 0xFFFE. -/
def Obligations.AccumulatorTransfer : Prop :=
  ∀ s : State,
    (∀ a : Word,
      (s.pc ≠ 0xFFFE#16 →
        (∃ n, exec (.lda a) s = .next { s with
            a := s.mem.read a, pc := s.pc + 3#16, cyc := n, icount := s.icount + 1 } ∧
          Claims.Charges s (.lda a) 13 n) ∧
        ∃ t, exec (.sta a) s = .next t ∧ Claims.Stores1 s t a s.a ∧
          { t with mem := s.mem } = { s with pc := s.pc + 3#16, cyc := t.cyc, icount := s.icount + 1 } ∧
          Claims.Charges s (.sta a) 13 t.cyc) ∧
      (s.pc = 0xFFFE#16 →
        exec (.lda a) s = Claims.raisesOutOfRange s ∧ exec (.sta a) s = Claims.raisesOutOfRange s) ∧
      encode (.lda a) = [0x3A#8, lo8 a, hi8 a] ∧ encode (.sta a) = [0x32#8, lo8 a, hi8 a]) ∧
    (∀ p ∈ [(Instr.ldaxB, s.bc, 0x0A#8), (Instr.ldaxD, s.de, 0x1A#8)], encode p.1 = [p.2.2] ∧ ∃ n,
      exec p.1 s = .next { s with a := s.mem.read p.2.1, pc := s.pc + 1#16, cyc := n, icount := s.icount + 1 } ∧
      Claims.Charges s p.1 7 n) ∧
    ∀ p ∈ [(Instr.staxB, s.bc, 0x02#8), (Instr.staxD, s.de, 0x12#8)], encode p.1 = [p.2.2] ∧ ∃ t,
      exec p.1 s = .next t ∧ Claims.Stores1 s t p.2.1 s.a ∧
      { t with mem := s.mem } = { s with pc := s.pc + 1#16, cyc := t.cyc, icount := s.icount + 1 } ∧
      Claims.Charges s p.1 7 t.cyc

/-- R129, R130. LHLD and SHLD: L at the address, H at the address above it; `OutOfRange` when `pc0` is 0xFFFE or the
address is 0xFFFF, and nothing is written then. -/
def Obligations.DirectPairTransfer : Prop :=
  ∀ (a : Word) (s : State),
    (s.pc ≠ 0xFFFE#16 → a ≠ 0xFFFF#16 →
      (∃ n, exec (.lhld a) s = .next { s with
          l := s.mem.read a, h := s.mem.read (a + 1#16), pc := s.pc + 3#16, cyc := n, icount := s.icount + 1 } ∧
        Claims.Charges s (.lhld a) 16 n) ∧
      ∃ t, exec (.shld a) s = .next t ∧ Claims.Stores2 s t a s.hl ∧
        { t with mem := s.mem } = { s with pc := s.pc + 3#16, cyc := t.cyc, icount := s.icount + 1 } ∧
        Claims.Charges s (.shld a) 16 t.cyc) ∧
    (s.pc = 0xFFFE#16 ∨ a = 0xFFFF#16 →
      exec (.lhld a) s = Claims.raisesOutOfRange s ∧ exec (.shld a) s = Claims.raisesOutOfRange s) ∧
    encode (.lhld a) = [0x2A#8, lo8 a, hi8 a] ∧ encode (.shld a) = [0x22#8, lo8 a, hi8 a]

/-- XCHG (R133), XTHL (R134, decision D25 of the spec) and SPHL (R135). XTHL: HL and the word at SP change places, SP
is unchanged; `OutOfRange` when SP is 0xFFFF. -/
def Obligations.Exchanges : Prop :=
  ∀ s : State,
    (∃ n, encode .xchg = [0xEB#8] ∧ exec .xchg s = .next { s with
        h := s.d, d := s.h, l := s.e, e := s.l, pc := s.pc + 1#16, cyc := n, icount := s.icount + 1 } ∧
      Claims.Charges s .xchg 4 n) ∧
    (∃ n, encode .sphl = [0xF9#8] ∧ exec .sphl s = .next { s with
        sp := s.hl, pc := s.pc + 1#16, cyc := n, icount := s.icount + 1 } ∧
      Claims.Charges s .sphl 5 n) ∧
    encode .xthl = [0xE3#8] ∧
    (s.sp ≠ 0xFFFF#16 → ∃ t, exec .xthl s = .next t ∧ Claims.Stores2 s t s.sp s.hl ∧
      { t with mem := s.mem } = { s with
        l := s.mem.read s.sp, h := s.mem.read (s.sp + 1#16), pc := s.pc + 1#16, cyc := t.cyc
        icount := s.icount + 1 } ∧
      Claims.Charges s .xthl 18 t.cyc) ∧
    (s.sp = 0xFFFF#16 → exec .xthl s = Claims.raisesOutOfRange s)

/-! ### Arithmetic (41_arithmetic.md) -/

/-- ADD r, ADD M, ADI (R153, R154, R155): A is the sum modulo 2^8, CY the carry out of bit 7, AC the carry out of bit
3, S, Z and P from the result, IE and bits 3 and 1 kept (R151; the flag sets and AC are marked as general knowledge).
-/
def Obligations.AddResultAndFlags : Prop :=
  let result := fun (s : State) (v : Byte) => BitVec.ofNat 8 (s.a.toNat + v.toNat)
  let ac := fun (s : State) (v : Byte) => decide (s.a.toNat % 16 + v.toNat % 16 > 0x0F)
  let cy := fun (s : State) (v : Byte) => decide (s.a.toNat + v.toNat > 0xFF)
  (∀ p ∈ Claims.addForms, Claims.AccumulatorOp p.1 (readSel p.2) [BitVec.ofNat 8 (0x80 + Claims.selNum p.2)]
    (Claims.aluCycles p.2) result ac cy) ∧
  ∀ d, Claims.AccumulatorOp (.adi d) (fun _ => d) [0xC6#8, d] 7 result ac cy

/-- ADC r, ADC M, ACI (R156, R157, R158): as ADD with the carry-in CY on entry, which takes part in AC (R151; the flag
sets and AC are marked as general knowledge). -/
def Obligations.AddWithCarryResultAndFlags : Prop :=
  let cin := fun (s : State) => (s.f.getLsbD 0).toNat
  let result := fun (s : State) (v : Byte) => BitVec.ofNat 8 (s.a.toNat + v.toNat + cin s)
  let ac := fun (s : State) (v : Byte) => decide (s.a.toNat % 16 + v.toNat % 16 + cin s > 0x0F)
  let cy := fun (s : State) (v : Byte) => decide (s.a.toNat + v.toNat + cin s > 0xFF)
  (∀ p ∈ Claims.adcForms, Claims.AccumulatorOp p.1 (readSel p.2) [BitVec.ofNat 8 (0x88 + Claims.selNum p.2)]
    (Claims.aluCycles p.2) result ac cy) ∧
  ∀ d, Claims.AccumulatorOp (.aci d) (fun _ => d) [0xCE#8, d] 7 result ac cy

/-- SUB r, SUB M, SUI (R159, R160, R161): CY is set exactly when A is less than the operand, AC exactly when there is
no borrow from bit 4 (R152, decision D15 of the spec). -/
def Obligations.SubtractResultAndFlags : Prop :=
  let result := fun (s : State) (v : Byte) => s.a - v
  let ac := fun (s : State) (v : Byte) => decide (s.a.toNat % 16 ≥ v.toNat % 16)
  let cy := fun (s : State) (v : Byte) => decide (s.a.toNat < v.toNat)
  (∀ p ∈ Claims.subForms, Claims.AccumulatorOp p.1 (readSel p.2) [BitVec.ofNat 8 (0x90 + Claims.selNum p.2)]
    (Claims.aluCycles p.2) result ac cy) ∧
  ∀ d, Claims.AccumulatorOp (.sui d) (fun _ => d) [0xD6#8, d] 7 result ac cy

/-- SBB r, SBB M, SBI (R162, R163, R164), with the borrow-in CY on entry (R152, decision D15 of the spec). -/
def Obligations.SubtractWithBorrowResultAndFlags : Prop :=
  let bin := fun (s : State) => (s.f.getLsbD 0).toNat
  let result := fun (s : State) (v : Byte) => s.a - v - BitVec.ofNat 8 (bin s)
  let ac := fun (s : State) (v : Byte) => decide (s.a.toNat % 16 ≥ v.toNat % 16 + bin s)
  let cy := fun (s : State) (v : Byte) => decide (s.a.toNat < v.toNat + bin s)
  (∀ p ∈ Claims.sbbForms, Claims.AccumulatorOp p.1 (readSel p.2) [BitVec.ofNat 8 (0x98 + Claims.selNum p.2)]
    (Claims.aluCycles p.2) result ac cy) ∧
  ∀ d, Claims.AccumulatorOp (.sbi d) (fun _ => d) [0xDE#8, d] 7 result ac cy

/-- CMP r, CMP M, CPI (R165, R166, R167): the flags of the subtraction, A unchanged; Z exactly when A equals the
operand, CY exactly when A is less (AC by decision D15 of the spec). -/
def Obligations.CompareFlags : Prop :=
  let compares := fun (i : Instr) (operand : State → Byte) (bytes : List Byte) (cycles : Nat) =>
    ∀ s : State, ∃ f' n, encode i = bytes ∧
      exec i s = .next { s with
        f := f', pc := s.pc + BitVec.ofNat 16 bytes.length, cyc := n, icount := s.icount + 1 } ∧
      Claims.FlagsFrom f' s.f (s.a - operand s) (decide (s.a.toNat % 16 ≥ (operand s).toNat % 16))
        (decide (s.a.toNat < (operand s).toNat)) ∧
      (f'.getLsbD 6 = true ↔ s.a = operand s) ∧
      Claims.Charges s i cycles n
  (∀ p ∈ Claims.cmpForms, compares p.1 (readSel p.2) [BitVec.ofNat 8 (0xB8 + Claims.selNum p.2)]
    (Claims.aluCycles p.2)) ∧
  ∀ d, compares (.cpi d) (fun _ => d) [0xFE#8, d] 7

/-- INR r, INR M, DCR r, DCR M (R168 to R171): CY is kept; AC is set by INR exactly when the low nibble was 0xF, by
DCR exactly when it was not 0 (general knowledge and decision D15 of the spec). -/
def Obligations.IncrementDecrementResultAndFlags : Prop :=
  (∀ p ∈ Claims.inrForms, ∀ s : State, ∃ f' n,
    encode p.1 = [BitVec.ofNat 8 (0x04 + 8 * Claims.selNum p.2)] ∧
    exec p.1 s = .next { writeSel p.2 (readSel p.2 s + 1#8) s with
      f := f', pc := s.pc + 1#16, cyc := n, icount := s.icount + 1 } ∧
    Claims.FlagsFrom f' s.f (readSel p.2 s + 1#8) (decide ((readSel p.2 s).toNat % 16 = 15)) (s.f.getLsbD 0) ∧
    Claims.Charges s p.1 (if p.2 = .m then 10 else 5) n) ∧
  ∀ p ∈ Claims.dcrForms, ∀ s : State, ∃ f' n,
    encode p.1 = [BitVec.ofNat 8 (0x05 + 8 * Claims.selNum p.2)] ∧
    exec p.1 s = .next { writeSel p.2 (readSel p.2 s - 1#8) s with
      f := f', pc := s.pc + 1#16, cyc := n, icount := s.icount + 1 } ∧
    Claims.FlagsFrom f' s.f (readSel p.2 s - 1#8) (decide ((readSel p.2 s).toNat % 16 ≠ 0)) (s.f.getLsbD 0) ∧
    Claims.Charges s p.1 (if p.2 = .m then 10 else 5) n

/-- DCR undoes INR and INR undoes DCR, on every register and on M, in every state (R170, R176). -/
def Obligations.IncrementDecrementInverse : Prop :=
  ∀ (k : Fin 8) (s t u : State), ∀ p ∈ Claims.inrForms[k.val]?, ∀ q ∈ Claims.dcrForms[k.val]?,
    (exec p.1 s = .next t → exec q.1 t = .next u → readSel q.2 u = readSel p.2 s) ∧
    (exec q.1 s = .next t → exec p.1 t = .next u → readSel p.2 u = readSel q.2 s)

/-- INX and DCX on every pair, modulo 2^16, with no flag written (R172, R173; marked as general knowledge); and a pair
written reads back and leaves the other pairs (R23, R25). -/
def Obligations.PairIncrementDecrement : Prop :=
  (∀ p ∈ Claims.inxForms, ∀ s : State, ∃ n, encode p.1 = [BitVec.ofNat 8 (0x03 + 16 * Claims.pairNum p.2)] ∧
    exec p.1 s = .next { writePair p.2 (readPair p.2 s + 1#16) s with
      pc := s.pc + 1#16, cyc := n, icount := s.icount + 1 } ∧
    Claims.Charges s p.1 5 n) ∧
  (∀ p ∈ Claims.dcxForms, ∀ s : State, ∃ n, encode p.1 = [BitVec.ofNat 8 (0x0B + 16 * Claims.pairNum p.2)] ∧
    exec p.1 s = .next { writePair p.2 (readPair p.2 s - 1#16) s with
      pc := s.pc + 1#16, cyc := n, icount := s.icount + 1 } ∧
    Claims.Charges s p.1 5 n) ∧
  ∀ (i : Pair) (v : Word) (s : State), readPair i (writePair i v s) = v ∧
    ∀ j : Pair, j ≠ i → readPair j (writePair i v s) = readPair j s

/-- DAD: HL is the sum modulo 2^16, CY its carry out of bit 15, and the other seven bits of F are kept (R174; the flag
set is marked as general knowledge). -/
def Obligations.PairAdd : Prop :=
  ∀ p ∈ Claims.dadForms, ∀ s : State, ∃ f' n,
    let sum := s.hl.toNat + (readPair p.2 s).toNat
    encode p.1 = [BitVec.ofNat 8 (0x09 + 16 * Claims.pairNum p.2)] ∧
    exec p.1 s = .next { s with
      h := hi8 (BitVec.ofNat 16 sum), l := lo8 (BitVec.ofNat 16 sum), f := f'
      pc := s.pc + 1#16, cyc := n, icount := s.icount + 1 } ∧
    f'.getLsbD 0 = decide (sum > 0xFFFF) ∧ f' &&& 0xFE#8 = s.f &&& 0xFE#8 ∧
    Claims.Charges s p.1 10 n

/-- DAA equals the usual formulation of the 8080's decimal adjust, against which R175 says it was checked: add 6 if
the low nibble exceeds 9 or AC; add 0x60 if the high nibble exceeds 9, or CY, or it is at least 9 and the low nibble
exceeds 9. AC is set exactly when 6 is added and the low nibble exceeds 9, and kept when 6 is not added; CY is set
when 0x60 is added and kept otherwise; S, Z, P come from the result (R175, decision D17 of the spec). -/
def Obligations.DecimalAdjust : Prop :=
  ∀ s : State, ∃ f' n,
    let lo := s.a.toNat % 16
    let hi := s.a.toNat / 16
    let fixLo : Bool := decide (lo > 9) || s.f.getLsbD 4
    let fixHi : Bool := decide (hi > 9) || s.f.getLsbD 0 || (decide (hi ≥ 9) && decide (lo > 9))
    let r := s.a + (if fixLo then 0x06#8 else 0x00#8) + (if fixHi then 0x60#8 else 0x00#8)
    encode .daa = [0x27#8] ∧
    exec .daa s = .next { s with a := r, f := f', pc := s.pc + 1#16, cyc := n, icount := s.icount + 1 } ∧
    Claims.FlagsFrom f' s.f r (if fixLo then decide (lo > 9) else s.f.getLsbD 4) (fixHi || s.f.getLsbD 0) ∧
    Claims.Charges s .daa 4 n

/-! ### Logical and rotate (42_logical.md) -/

/-- ANA, ANI, XRA, XRI, ORA, ORI (R191 to R199). AND clears CY and sets AC to bit 3 of the OR of the operands;
exclusive OR and OR clear CY and AC (decision D16 of the spec). -/
def Obligations.LogicalResultAndFlags : Prop :=
  let off := fun (_ : State) (_ : Byte) => false
  let and := fun (s : State) (v : Byte) => s.a &&& v
  let xor := fun (s : State) (v : Byte) => s.a ^^^ v
  let or := fun (s : State) (v : Byte) => s.a ||| v
  let ac := fun (s : State) (v : Byte) => s.a.getLsbD 3 || v.getLsbD 3
  (∀ p ∈ Claims.anaForms, Claims.AccumulatorOp p.1 (readSel p.2) [BitVec.ofNat 8 (0xA0 + Claims.selNum p.2)]
    (Claims.aluCycles p.2) and ac off) ∧
  (∀ d, Claims.AccumulatorOp (.ani d) (fun _ => d) [0xE6#8, d] 7 and ac off) ∧
  (∀ p ∈ Claims.xraForms, Claims.AccumulatorOp p.1 (readSel p.2) [BitVec.ofNat 8 (0xA8 + Claims.selNum p.2)]
    (Claims.aluCycles p.2) xor off off) ∧
  (∀ d, Claims.AccumulatorOp (.xri d) (fun _ => d) [0xEE#8, d] 7 xor off off) ∧
  (∀ p ∈ Claims.oraForms, Claims.AccumulatorOp p.1 (readSel p.2) [BitVec.ofNat 8 (0xB0 + Claims.selNum p.2)]
    (Claims.aluCycles p.2) or off off) ∧
  ∀ d, Claims.AccumulatorOp (.ori d) (fun _ => d) [0xF6#8, d] 7 or off off

/-- CMA (R200) writes no flag (marked as general knowledge); CMC (R205) inverts CY and STC (R206) sets it, each
keeping the other seven bits of F. -/
def Obligations.ComplementAndCarryOps : Prop :=
  ∀ s : State,
    (∃ n, encode .cma = [0x2F#8] ∧
      exec .cma s = .next { s with a := 0xFF#8 - s.a, pc := s.pc + 1#16, cyc := n, icount := s.icount + 1 } ∧
      Claims.Charges s .cma 4 n) ∧
    (∃ n, encode .cmc = [0x3F#8] ∧
      exec .cmc s = .next { s with f := s.f ^^^ 0x01#8, pc := s.pc + 1#16, cyc := n, icount := s.icount + 1 } ∧
      Claims.Charges s .cmc 4 n) ∧
    ∃ n, encode .stc = [0x37#8] ∧
      exec .stc s = .next { s with f := s.f ||| 0x01#8, pc := s.pc + 1#16, cyc := n, icount := s.icount + 1 } ∧
      Claims.Charges s .stc 4 n

/-- The rotates, bit by bit: bit 0 or bit 7 takes the bit rotated in, every other bit its neighbour, CY the bit
rotated out, and the other seven bits of F are kept (R201 to R204; that the other flags are kept is marked as general
knowledge). -/
def Obligations.RotateBits : Prop :=
  let rotates := fun (i : Instr) (op : Byte) (s : State) (bit : Nat → Bool) (out : Bool) =>
    ∃ a' f' n, encode i = [op] ∧
      exec i s = .next { s with a := a', f := f', pc := s.pc + 1#16, cyc := n, icount := s.icount + 1 } ∧
      (∀ k, k < 8 → a'.getLsbD k = bit k) ∧ f'.getLsbD 0 = out ∧ f' &&& 0xFE#8 = s.f &&& 0xFE#8 ∧
      Claims.Charges s i 4 n
  ∀ s : State,
    rotates .rlc 0x07#8 s (fun k => if k = 0 then s.a.getLsbD 7 else s.a.getLsbD (k - 1)) (s.a.getLsbD 7) ∧
    rotates .rrc 0x0F#8 s (fun k => if k = 7 then s.a.getLsbD 0 else s.a.getLsbD (k + 1)) (s.a.getLsbD 0) ∧
    rotates .ral 0x17#8 s (fun k => if k = 0 then s.f.getLsbD 0 else s.a.getLsbD (k - 1)) (s.a.getLsbD 7) ∧
    rotates .rar 0x1F#8 s (fun k => if k = 7 then s.f.getLsbD 0 else s.a.getLsbD (k + 1)) (s.a.getLsbD 0)

/-! ### Branch, call, return (43_branch.md, 44_call_return.md) -/

/-- R221 to R229. JMP, its synonym and the eight conditional jumps: PC is replaced when the condition holds and passes
the operand otherwise; 10 cycles either way; `OutOfRange` when `pc0` is 0xFFFE, taken or not. -/
def Obligations.JumpTargets : Prop :=
  ∀ (a : Word) (s : State),
    (s.pc ≠ 0xFFFE#16 →
      (∀ p ∈ [(Instr.jmp a, 0xC3#8), (Instr.jmpCB a, 0xCB#8)], ∃ n, encode p.1 = [p.2, lo8 a, hi8 a] ∧
        exec p.1 s = .next { s with pc := a, cyc := n, icount := s.icount + 1 } ∧ Claims.Charges s p.1 10 n) ∧
      ∀ p ∈ Claims.jumpForms a, ∃ n,
        encode p.1 = [BitVec.ofNat 8 (0xC2 + 8 * Claims.condNum p.2), lo8 a, hi8 a] ∧
        exec p.1 s = .next { s with
          pc := if Claims.conditionTrue p.2 s.f then a else s.pc + 3#16, cyc := n, icount := s.icount + 1 } ∧
        Claims.ChargesTaken s p.1 (Claims.conditionTrue p.2 s.f) 10 n) ∧
    (s.pc = 0xFFFE#16 → exec (.jmp a) s = Claims.raisesOutOfRange s ∧ exec (.jmpCB a) s = Claims.raisesOutOfRange s ∧
      ∀ p ∈ Claims.jumpForms a, exec p.1 s = Claims.raisesOutOfRange s)

/-- R241. CALL and its synonyms push the address after the operand and go to the target; `OutOfRange` when `pc0` is
0xFFFE or SP is 0x0001. -/
def Obligations.CallPushesReturnAddress : Prop :=
  ∀ (a : Word) (s : State),
    ∀ p ∈ [(Instr.call a, 0xCD#8), (Instr.callDD a, 0xDD#8), (Instr.callED a, 0xED#8), (Instr.callFD a, 0xFD#8)],
      encode p.1 = [p.2, lo8 a, hi8 a] ∧
      (s.pc ≠ 0xFFFE#16 → s.sp ≠ 0x0001#16 → ∃ t, Claims.Calls p.1 s t 3#16 a ∧ Claims.Charges s p.1 17 t.cyc) ∧
      (s.pc = 0xFFFE#16 ∨ s.sp = 0x0001#16 → exec p.1 s = Claims.raisesOutOfRange s)

/-- R242 to R249. Taken they push the address after the operand, go to the target and cost 17; not taken they pass the
operand, touch neither SP nor the stack and cost 11; `OutOfRange` when `pc0` is 0xFFFE, or when taken and SP is
0x0001. -/
def Obligations.ConditionalCall : Prop :=
  ∀ (a : Word) (s : State), ∀ p ∈ Claims.callForms a,
    encode p.1 = [BitVec.ofNat 8 (0xC4 + 8 * Claims.condNum p.2), lo8 a, hi8 a] ∧
    (s.pc ≠ 0xFFFE#16 → Claims.conditionTrue p.2 s.f = true → s.sp ≠ 0x0001#16 →
      ∃ t, Claims.Calls p.1 s t 3#16 a ∧ Claims.ChargesTaken s p.1 true 17 t.cyc) ∧
    (s.pc ≠ 0xFFFE#16 → Claims.conditionTrue p.2 s.f = false →
      ∃ n, exec p.1 s = .next { s with pc := s.pc + 3#16, cyc := n, icount := s.icount + 1 } ∧
        Claims.ChargesTaken s p.1 false 11 n) ∧
    (s.pc = 0xFFFE#16 ∨ Claims.conditionTrue p.2 s.f = true ∧ s.sp = 0x0001#16 →
      exec p.1 s = Claims.raisesOutOfRange s)

/-- R250 to R258. PC is the word at SP, low byte first, SP grows by 2 and nothing else is restored; not taken, the
next address, 5 cycles; `OutOfRange` when it pops and SP is 0xFFFF. -/
def Obligations.ReturnPopsProgramCounter : Prop :=
  ∀ s : State,
    let returned := fun n => { s with
      pc := word (s.mem.read (s.sp + 1#16)) (s.mem.read s.sp), sp := s.sp + 2#16, cyc := n, icount := s.icount + 1 }
    (∀ p ∈ [(Instr.ret, 0xC9#8), (Instr.retD9, 0xD9#8)], encode p.1 = [p.2] ∧
      (s.sp ≠ 0xFFFF#16 → ∃ n, exec p.1 s = .next (returned n) ∧ Claims.Charges s p.1 10 n) ∧
      (s.sp = 0xFFFF#16 → exec p.1 s = Claims.raisesOutOfRange s)) ∧
    ∀ p ∈ Claims.returnForms,
      encode p.1 = [BitVec.ofNat 8 (0xC0 + 8 * Claims.condNum p.2)] ∧
      (Claims.conditionTrue p.2 s.f = true → s.sp ≠ 0xFFFF#16 →
        ∃ n, exec p.1 s = .next (returned n) ∧ Claims.ChargesTaken s p.1 true 11 n) ∧
      (Claims.conditionTrue p.2 s.f = false →
        ∃ n, exec p.1 s = .next { s with pc := s.pc + 1#16, cyc := n, icount := s.icount + 1 } ∧
          Claims.ChargesTaken s p.1 false 5 n) ∧
      (Claims.conditionTrue p.2 s.f = true → s.sp = 0xFFFF#16 → exec p.1 s = Claims.raisesOutOfRange s)

/-- PCHL (R259) goes to HL; RST n (R262, general knowledge and decision D4 of the spec) pushes the next address and
goes to 8n, with `OutOfRange` when SP is 0x0001. -/
def Obligations.IndirectJumpAndRestart : Prop :=
  ∀ s : State,
    (∃ n, encode .pchl = [0xE9#8] ∧ exec .pchl s = .next { s with pc := s.hl, cyc := n, icount := s.icount + 1 } ∧
      Claims.Charges s .pchl 5 n) ∧
    ∀ p ∈ Claims.rstForms, encode p.1 = [BitVec.ofNat 8 (0xC7 + 8 * p.2)] ∧
      (s.sp ≠ 0x0001#16 → ∃ t, Claims.Calls p.1 s t 1#16 (BitVec.ofNat 16 (8 * p.2)) ∧
        Claims.Charges s p.1 11 t.cyc) ∧
      (s.sp = 0x0001#16 → exec p.1 s = Claims.raisesOutOfRange s)

/-! ### Stack, I/O, interrupt and machine control (45_stack.md, 46_io.md, 47_interrupt_and_machine_control.md) -/

/-- PUSH of every pair (R271 to R274): the high byte at SP - 1, the low byte at SP - 2; PSW pushes all eight bits of F
(decision D6 of the spec); `OutOfRange` when SP is 0x0001. -/
def Obligations.PushStoresPair : Prop :=
  ∀ p ∈ Claims.pushForms, ∀ s : State,
    encode p.1 = [BitVec.ofNat 8 (0xC5 + 16 * Claims.stackPairNum p.2)] ∧
    (s.sp ≠ 0x0001#16 → ∃ t, exec p.1 s = .next t ∧
      Claims.Stores2 s t (s.sp - 2#16) (word (Claims.stackPairBytes p.2 s).1 (Claims.stackPairBytes p.2 s).2) ∧
      { t with mem := s.mem } = { s with
        sp := s.sp - 2#16, pc := s.pc + 1#16, cyc := t.cyc, icount := s.icount + 1 } ∧
      Claims.Charges s p.1 11 t.cyc) ∧
    (s.sp = 0x0001#16 → exec p.1 s = Claims.raisesOutOfRange s)

/-- POP of every pair (R276 to R279): the low byte from SP, the high byte from SP + 1; POP PSW loads all eight bits of
F (decision D6 of the spec); `OutOfRange` when SP is 0xFFFF. -/
def Obligations.PopLoadsPair : Prop :=
  ∀ p ∈ Claims.popForms, ∀ s : State,
    let lo := s.mem.read s.sp
    let hi := s.mem.read (s.sp + 1#16)
    encode p.1 = [BitVec.ofNat 8 (0xC1 + 16 * Claims.stackPairNum p.2)] ∧
    (s.sp ≠ 0xFFFF#16 → ∃ n,
      Claims.Charges s p.1 10 n ∧
      (let u := { s with sp := s.sp + 2#16, pc := s.pc + 1#16, cyc := n, icount := s.icount + 1 }
       (p.2 = .bc → exec p.1 s = .next { u with b := hi, c := lo }) ∧
       (p.2 = .de → exec p.1 s = .next { u with d := hi, e := lo }) ∧
       (p.2 = .hl → exec p.1 s = .next { u with h := hi, l := lo }) ∧
       (p.2 = .psw → exec p.1 s = .next { u with a := hi, f := lo }))) ∧
    (s.sp = 0xFFFF#16 → exec p.1 s = Claims.raisesOutOfRange s)

/-- PUSH P then POP P leaves every register, F and SP as they were, whatever their values, for every SP but 0x0001;
the two bytes below SP hold the pair (R280, which the spec marks as derived). -/
def Obligations.PushPopRoundTrip : Prop :=
  ∀ (k : Fin 4) (s t u : State), s.fault = none → s.sp ≠ 0x0001#16 →
    ∀ p ∈ Claims.pushForms[k.val]?, ∀ q ∈ Claims.popForms[k.val]?,
    exec p.1 s = .next t → exec q.1 t = .next u →
    { u with mem := s.mem, pc := s.pc, cyc := s.cyc, icount := s.icount } = s ∧
    Claims.Stores2 s u (s.sp - 2#16) (word (Claims.stackPairBytes p.2 s).1 (Claims.stackPairBytes p.2 s).2)

/-- IN (R291, R350): an assigned input port gives its value, any other leaves A (decision D27 of the spec); bit k of
the shift window is bit k + 8 - `SHIFT_AMT` of the 16-bit shift register (decision D18). Premise: the three input
ports are distinct. -/
def Obligations.InputFromPort : Prop :=
  ∀ (d : Byte) (s : State), s.config.inputPortsOk = true → ∃ a' n,
    encode (.inp d) = [0xDB#8, d] ∧
    exec (.inp d) s = .next { s with a := a', pc := s.pc + 2#16, cyc := n, icount := s.icount + 1 } ∧
    (d = s.config.portSw1 → a' = s.sw1) ∧ (d = s.config.portSw2 → a' = s.sw2) ∧
    (d = s.config.portShiftRead → ∀ k, k < 8 →
      a'.getLsbD k = (word s.shiftHi s.shiftLo).getLsbD (k + 8 - s.shiftAmt.toNat)) ∧
    (d ≠ s.config.portSw1 → d ≠ s.config.portSw2 → d ≠ s.config.portShiftRead → a' = s.a) ∧
    Claims.Charges s (.inp d) 10 n

/-- OUT (R292, R351, R352): the shift amount keeps three bits, the shift data moves the high half to the low, `ACK`
stores A, and any port not assigned for output, sound included, changes nothing. Premise: the three output ports are
distinct (R351). In a launch that assigns the sound port 3 or 5 to one of them the assignment wins, which is the
model's choice (log 24). -/
def Obligations.OutputToPort : Prop :=
  ∀ (d : Byte) (s : State), s.config.outputPortsOk = true → ∃ t,
    encode (.outp d) = [0xD3#8, d] ∧ exec (.outp d) s = .next t ∧
    (d = s.config.portShiftAmt → t = { s with
      shiftAmt := BitVec.ofNat 3 (s.a.toNat % 8), pc := s.pc + 2#16, cyc := t.cyc, icount := s.icount + 1 }) ∧
    (d = s.config.portShiftData → t = { s with
      shiftLo := s.shiftHi, shiftHi := s.a, pc := s.pc + 2#16, cyc := t.cyc, icount := s.icount + 1 }) ∧
    (d = s.config.portAck → t = { s with
      ack := s.a, pc := s.pc + 2#16, cyc := t.cyc, icount := s.icount + 1 }) ∧
    (d ≠ s.config.portShiftAmt → d ≠ s.config.portShiftData → d ≠ s.config.portAck →
      t = { s with pc := s.pc + 2#16, cyc := t.cyc, icount := s.icount + 1 }) ∧
    Claims.Charges s (.outp d) 10 t.cyc

/-- EI (R310) sets and DI (R311) clears bit 5 of F, with no other effect (the place of IE is decision D5, the absence
of a delay D26); NOP and its seven synonym bytes (R312, marked as general knowledge) do nothing but pass on, count and
cost 4 cycles. -/
def Obligations.MachineControl : Prop :=
  ∀ s : State,
    (∃ n, encode .ei = [0xFB#8] ∧
      exec .ei s = .next { s with f := s.f ||| 0x20#8, pc := s.pc + 1#16, cyc := n, icount := s.icount + 1 } ∧
      Claims.Charges s .ei 4 n) ∧
    (∃ n, encode .di = [0xF3#8] ∧
      exec .di s = .next { s with f := s.f &&& 0xDF#8, pc := s.pc + 1#16, cyc := n, icount := s.icount + 1 } ∧
      Claims.Charges s .di 4 n) ∧
    ∀ p ∈ Claims.nopForms, ∃ n, encode p.1 = [p.2] ∧
      exec p.1 s = .next { s with pc := s.pc + 1#16, cyc := n, icount := s.icount + 1 } ∧
      Claims.Charges s p.1 4 n

/-- An opcode byte in `UNASSIGNED_OPCODES` raises `DecodeFault(pc, op)` (R330): the latch records the address the byte
was fetched from and the byte, and no other state is written after the interrupt check. The instruction of byte 0x76
does the same by itself while unassigned (R313, decision D3); in a launch that assigns it the spec gives no semantics
and the model refuses by name (U15; log 11). -/
def Obligations.UnassignedOpcodeRaisesDecodeFault : Prop :=
  (∀ s t : State, s.fault = none → s.config.wf = true → interruptCheck s = .ok t →
    t.mem.read t.pc ∈ t.config.unassignedOpcodes →
    step s = .next { t with fault := some (.decodeFault t.pc (t.mem.read t.pc)) }) ∧
  ∀ s : State, encode .unassigned76 = [0x76#8] ∧
    (0x76#8 ∈ s.config.unassignedOpcodes →
      exec .unassigned76 s = .next { s with fault := some (.decodeFault s.pc 0x76#8) }) ∧
    (0x76#8 ∉ s.config.unassignedOpcodes → exec .unassigned76 s = .refused .hltUnspecified)

/-- Under the default cost table every synonym behaves exactly as the opcode it is a synonym of, length and cost
included (R103, marked as general knowledge; log 13). -/
def Obligations.SynonymsBehaveAlike : Prop :=
  ∀ (s : State) (a : Word), s.config.cycCost = defaultCycCost →
    (∀ i ∈ [Instr.nop08, .nop10, .nop18, .nop20, .nop28, .nop30, .nop38], exec i s = exec .nop s ∧
      (encode i).length = 1) ∧
    (exec (.jmpCB a) s = exec (.jmp a) s ∧ (encode (.jmpCB a)).length = 3) ∧
    (exec .retD9 s = exec .ret s ∧ (encode .retD9).length = 1) ∧
    ∀ i ∈ [Instr.callDD a, .callED a, .callFD a], exec i s = exec (.call a) s ∧ (encode i).length = 3

end
end

