-- ==== Sys2Proof/Laws/Exec.lean ====
section
/-!
SUPPORT. For each instruction that is one line over a shared operation, that line: `exec` of it is the operation on its
operands. Proofs about `exec` cite these and then the operation's own lemma, instead of unfolding meanings.
-/

namespace Sys2Proof.Machine

@[simp] theorem exec_nop (s : State) : exec .nop s = noOperation 0x00#8 s := rfl
@[simp] theorem exec_lxiB (v : Word) (s : State) : exec (.lxiB v) s = loadPair 0x01#8 .bc v s := rfl
@[simp] theorem exec_staxB (s : State) : exec .staxB s = storeIndirect 0x02#8 .bc s := rfl
@[simp] theorem exec_inxB (s : State) : exec .inxB s = stepPair 0x03#8 .bc 1#16 s := rfl
@[simp] theorem exec_inrB (s : State) : exec .inrB s = incSel 0x04#8 .b s := rfl
@[simp] theorem exec_dcrB (s : State) : exec .dcrB s = decSel 0x05#8 .b s := rfl
@[simp] theorem exec_mviB (d : Byte) (s : State) : exec (.mviB d) s = mviSel 0x06#8 .b d s := rfl
@[simp] theorem exec_rlc (s : State) : exec .rlc s = onAcc 0x07#8 rlcOp s := rfl
@[simp] theorem exec_nop08 (s : State) : exec .nop08 s = noOperation 0x08#8 s := rfl
@[simp] theorem exec_dadB (s : State) : exec .dadB s = addPair 0x09#8 .bc s := rfl
@[simp] theorem exec_ldaxB (s : State) : exec .ldaxB s = loadIndirect 0x0A#8 .bc s := rfl
@[simp] theorem exec_dcxB (s : State) : exec .dcxB s = stepPair 0x0B#8 .bc (-1#16) s := rfl
@[simp] theorem exec_inrC (s : State) : exec .inrC s = incSel 0x0C#8 .c s := rfl
@[simp] theorem exec_dcrC (s : State) : exec .dcrC s = decSel 0x0D#8 .c s := rfl
@[simp] theorem exec_mviC (d : Byte) (s : State) : exec (.mviC d) s = mviSel 0x0E#8 .c d s := rfl
@[simp] theorem exec_rrc (s : State) : exec .rrc s = onAcc 0x0F#8 rrcOp s := rfl
@[simp] theorem exec_nop10 (s : State) : exec .nop10 s = noOperation 0x10#8 s := rfl
@[simp] theorem exec_lxiD (v : Word) (s : State) : exec (.lxiD v) s = loadPair 0x11#8 .de v s := rfl
@[simp] theorem exec_staxD (s : State) : exec .staxD s = storeIndirect 0x12#8 .de s := rfl
@[simp] theorem exec_inxD (s : State) : exec .inxD s = stepPair 0x13#8 .de 1#16 s := rfl
@[simp] theorem exec_inrD (s : State) : exec .inrD s = incSel 0x14#8 .d s := rfl
@[simp] theorem exec_dcrD (s : State) : exec .dcrD s = decSel 0x15#8 .d s := rfl
@[simp] theorem exec_mviD (d : Byte) (s : State) : exec (.mviD d) s = mviSel 0x16#8 .d d s := rfl
@[simp] theorem exec_ral (s : State) : exec .ral s = onAcc 0x17#8 ralOp s := rfl
@[simp] theorem exec_nop18 (s : State) : exec .nop18 s = noOperation 0x18#8 s := rfl
@[simp] theorem exec_dadD (s : State) : exec .dadD s = addPair 0x19#8 .de s := rfl
@[simp] theorem exec_ldaxD (s : State) : exec .ldaxD s = loadIndirect 0x1A#8 .de s := rfl
@[simp] theorem exec_dcxD (s : State) : exec .dcxD s = stepPair 0x1B#8 .de (-1#16) s := rfl
@[simp] theorem exec_inrE (s : State) : exec .inrE s = incSel 0x1C#8 .e s := rfl
@[simp] theorem exec_dcrE (s : State) : exec .dcrE s = decSel 0x1D#8 .e s := rfl
@[simp] theorem exec_mviE (d : Byte) (s : State) : exec (.mviE d) s = mviSel 0x1E#8 .e d s := rfl
@[simp] theorem exec_rar (s : State) : exec .rar s = onAcc 0x1F#8 rarOp s := rfl
@[simp] theorem exec_nop20 (s : State) : exec .nop20 s = noOperation 0x20#8 s := rfl
@[simp] theorem exec_lxiH (v : Word) (s : State) : exec (.lxiH v) s = loadPair 0x21#8 .hl v s := rfl
@[simp] theorem exec_inxH (s : State) : exec .inxH s = stepPair 0x23#8 .hl 1#16 s := rfl
@[simp] theorem exec_inrH (s : State) : exec .inrH s = incSel 0x24#8 .h s := rfl
@[simp] theorem exec_dcrH (s : State) : exec .dcrH s = decSel 0x25#8 .h s := rfl
@[simp] theorem exec_mviH (d : Byte) (s : State) : exec (.mviH d) s = mviSel 0x26#8 .h d s := rfl
@[simp] theorem exec_daa (s : State) : exec .daa s = onAcc 0x27#8 daaOp s := rfl
@[simp] theorem exec_nop28 (s : State) : exec .nop28 s = noOperation 0x28#8 s := rfl
@[simp] theorem exec_dadH (s : State) : exec .dadH s = addPair 0x29#8 .hl s := rfl
@[simp] theorem exec_dcxH (s : State) : exec .dcxH s = stepPair 0x2B#8 .hl (-1#16) s := rfl
@[simp] theorem exec_inrL (s : State) : exec .inrL s = incSel 0x2C#8 .l s := rfl
@[simp] theorem exec_dcrL (s : State) : exec .dcrL s = decSel 0x2D#8 .l s := rfl
@[simp] theorem exec_mviL (d : Byte) (s : State) : exec (.mviL d) s = mviSel 0x2E#8 .l d s := rfl
@[simp] theorem exec_nop30 (s : State) : exec .nop30 s = noOperation 0x30#8 s := rfl
@[simp] theorem exec_lxiSP (v : Word) (s : State) : exec (.lxiSP v) s = loadPair 0x31#8 .sp v s := rfl
@[simp] theorem exec_inxSP (s : State) : exec .inxSP s = stepPair 0x33#8 .sp 1#16 s := rfl
@[simp] theorem exec_inrM (s : State) : exec .inrM s = incSel 0x34#8 .m s := rfl
@[simp] theorem exec_dcrM (s : State) : exec .dcrM s = decSel 0x35#8 .m s := rfl
@[simp] theorem exec_mviM (d : Byte) (s : State) : exec (.mviM d) s = mviSel 0x36#8 .m d s := rfl
@[simp] theorem exec_nop38 (s : State) : exec .nop38 s = noOperation 0x38#8 s := rfl
@[simp] theorem exec_dadSP (s : State) : exec .dadSP s = addPair 0x39#8 .sp s := rfl
@[simp] theorem exec_dcxSP (s : State) : exec .dcxSP s = stepPair 0x3B#8 .sp (-1#16) s := rfl
@[simp] theorem exec_inrA (s : State) : exec .inrA s = incSel 0x3C#8 .a s := rfl
@[simp] theorem exec_dcrA (s : State) : exec .dcrA s = decSel 0x3D#8 .a s := rfl
@[simp] theorem exec_mviA (d : Byte) (s : State) : exec (.mviA d) s = mviSel 0x3E#8 .a d s := rfl
@[simp] theorem exec_movBB (s : State) : exec .movBB s = movSel 0x40#8 .b .b s := rfl
@[simp] theorem exec_movBC (s : State) : exec .movBC s = movSel 0x41#8 .b .c s := rfl
@[simp] theorem exec_movBD (s : State) : exec .movBD s = movSel 0x42#8 .b .d s := rfl
@[simp] theorem exec_movBE (s : State) : exec .movBE s = movSel 0x43#8 .b .e s := rfl
@[simp] theorem exec_movBH (s : State) : exec .movBH s = movSel 0x44#8 .b .h s := rfl
@[simp] theorem exec_movBL (s : State) : exec .movBL s = movSel 0x45#8 .b .l s := rfl
@[simp] theorem exec_movBM (s : State) : exec .movBM s = movSel 0x46#8 .b .m s := rfl
@[simp] theorem exec_movBA (s : State) : exec .movBA s = movSel 0x47#8 .b .a s := rfl
@[simp] theorem exec_movCB (s : State) : exec .movCB s = movSel 0x48#8 .c .b s := rfl
@[simp] theorem exec_movCC (s : State) : exec .movCC s = movSel 0x49#8 .c .c s := rfl
@[simp] theorem exec_movCD (s : State) : exec .movCD s = movSel 0x4A#8 .c .d s := rfl
@[simp] theorem exec_movCE (s : State) : exec .movCE s = movSel 0x4B#8 .c .e s := rfl
@[simp] theorem exec_movCH (s : State) : exec .movCH s = movSel 0x4C#8 .c .h s := rfl
@[simp] theorem exec_movCL (s : State) : exec .movCL s = movSel 0x4D#8 .c .l s := rfl
@[simp] theorem exec_movCM (s : State) : exec .movCM s = movSel 0x4E#8 .c .m s := rfl
@[simp] theorem exec_movCA (s : State) : exec .movCA s = movSel 0x4F#8 .c .a s := rfl
@[simp] theorem exec_movDB (s : State) : exec .movDB s = movSel 0x50#8 .d .b s := rfl
@[simp] theorem exec_movDC (s : State) : exec .movDC s = movSel 0x51#8 .d .c s := rfl
@[simp] theorem exec_movDD (s : State) : exec .movDD s = movSel 0x52#8 .d .d s := rfl
@[simp] theorem exec_movDE (s : State) : exec .movDE s = movSel 0x53#8 .d .e s := rfl
@[simp] theorem exec_movDH (s : State) : exec .movDH s = movSel 0x54#8 .d .h s := rfl
@[simp] theorem exec_movDL (s : State) : exec .movDL s = movSel 0x55#8 .d .l s := rfl
@[simp] theorem exec_movDM (s : State) : exec .movDM s = movSel 0x56#8 .d .m s := rfl
@[simp] theorem exec_movDA (s : State) : exec .movDA s = movSel 0x57#8 .d .a s := rfl
@[simp] theorem exec_movEB (s : State) : exec .movEB s = movSel 0x58#8 .e .b s := rfl
@[simp] theorem exec_movEC (s : State) : exec .movEC s = movSel 0x59#8 .e .c s := rfl
@[simp] theorem exec_movED (s : State) : exec .movED s = movSel 0x5A#8 .e .d s := rfl
@[simp] theorem exec_movEE (s : State) : exec .movEE s = movSel 0x5B#8 .e .e s := rfl
@[simp] theorem exec_movEH (s : State) : exec .movEH s = movSel 0x5C#8 .e .h s := rfl
@[simp] theorem exec_movEL (s : State) : exec .movEL s = movSel 0x5D#8 .e .l s := rfl
@[simp] theorem exec_movEM (s : State) : exec .movEM s = movSel 0x5E#8 .e .m s := rfl
@[simp] theorem exec_movEA (s : State) : exec .movEA s = movSel 0x5F#8 .e .a s := rfl
@[simp] theorem exec_movHB (s : State) : exec .movHB s = movSel 0x60#8 .h .b s := rfl
@[simp] theorem exec_movHC (s : State) : exec .movHC s = movSel 0x61#8 .h .c s := rfl
@[simp] theorem exec_movHD (s : State) : exec .movHD s = movSel 0x62#8 .h .d s := rfl
@[simp] theorem exec_movHE (s : State) : exec .movHE s = movSel 0x63#8 .h .e s := rfl
@[simp] theorem exec_movHH (s : State) : exec .movHH s = movSel 0x64#8 .h .h s := rfl
@[simp] theorem exec_movHL (s : State) : exec .movHL s = movSel 0x65#8 .h .l s := rfl
@[simp] theorem exec_movHM (s : State) : exec .movHM s = movSel 0x66#8 .h .m s := rfl
@[simp] theorem exec_movHA (s : State) : exec .movHA s = movSel 0x67#8 .h .a s := rfl
@[simp] theorem exec_movLB (s : State) : exec .movLB s = movSel 0x68#8 .l .b s := rfl
@[simp] theorem exec_movLC (s : State) : exec .movLC s = movSel 0x69#8 .l .c s := rfl
@[simp] theorem exec_movLD (s : State) : exec .movLD s = movSel 0x6A#8 .l .d s := rfl
@[simp] theorem exec_movLE (s : State) : exec .movLE s = movSel 0x6B#8 .l .e s := rfl
@[simp] theorem exec_movLH (s : State) : exec .movLH s = movSel 0x6C#8 .l .h s := rfl
@[simp] theorem exec_movLL (s : State) : exec .movLL s = movSel 0x6D#8 .l .l s := rfl
@[simp] theorem exec_movLM (s : State) : exec .movLM s = movSel 0x6E#8 .l .m s := rfl
@[simp] theorem exec_movLA (s : State) : exec .movLA s = movSel 0x6F#8 .l .a s := rfl
@[simp] theorem exec_movMB (s : State) : exec .movMB s = movSel 0x70#8 .m .b s := rfl
@[simp] theorem exec_movMC (s : State) : exec .movMC s = movSel 0x71#8 .m .c s := rfl
@[simp] theorem exec_movMD (s : State) : exec .movMD s = movSel 0x72#8 .m .d s := rfl
@[simp] theorem exec_movME (s : State) : exec .movME s = movSel 0x73#8 .m .e s := rfl
@[simp] theorem exec_movMH (s : State) : exec .movMH s = movSel 0x74#8 .m .h s := rfl
@[simp] theorem exec_movML (s : State) : exec .movML s = movSel 0x75#8 .m .l s := rfl
@[simp] theorem exec_movMA (s : State) : exec .movMA s = movSel 0x77#8 .m .a s := rfl
@[simp] theorem exec_movAB (s : State) : exec .movAB s = movSel 0x78#8 .a .b s := rfl
@[simp] theorem exec_movAC (s : State) : exec .movAC s = movSel 0x79#8 .a .c s := rfl
@[simp] theorem exec_movAD (s : State) : exec .movAD s = movSel 0x7A#8 .a .d s := rfl
@[simp] theorem exec_movAE (s : State) : exec .movAE s = movSel 0x7B#8 .a .e s := rfl
@[simp] theorem exec_movAH (s : State) : exec .movAH s = movSel 0x7C#8 .a .h s := rfl
@[simp] theorem exec_movAL (s : State) : exec .movAL s = movSel 0x7D#8 .a .l s := rfl
@[simp] theorem exec_movAM (s : State) : exec .movAM s = movSel 0x7E#8 .a .m s := rfl
@[simp] theorem exec_movAA (s : State) : exec .movAA s = movSel 0x7F#8 .a .a s := rfl
@[simp] theorem exec_addB (s : State) : exec .addB s = addTo 0x80#8 1#16 (readSel .b s) s := rfl
@[simp] theorem exec_addC (s : State) : exec .addC s = addTo 0x81#8 1#16 (readSel .c s) s := rfl
@[simp] theorem exec_addD (s : State) : exec .addD s = addTo 0x82#8 1#16 (readSel .d s) s := rfl
@[simp] theorem exec_addE (s : State) : exec .addE s = addTo 0x83#8 1#16 (readSel .e s) s := rfl
@[simp] theorem exec_addH (s : State) : exec .addH s = addTo 0x84#8 1#16 (readSel .h s) s := rfl
@[simp] theorem exec_addL (s : State) : exec .addL s = addTo 0x85#8 1#16 (readSel .l s) s := rfl
@[simp] theorem exec_addM (s : State) : exec .addM s = addTo 0x86#8 1#16 (readSel .m s) s := rfl
@[simp] theorem exec_addA (s : State) : exec .addA s = addTo 0x87#8 1#16 (readSel .a s) s := rfl
@[simp] theorem exec_adcB (s : State) : exec .adcB s = adcTo 0x88#8 1#16 (readSel .b s) s := rfl
@[simp] theorem exec_adcC (s : State) : exec .adcC s = adcTo 0x89#8 1#16 (readSel .c s) s := rfl
@[simp] theorem exec_adcD (s : State) : exec .adcD s = adcTo 0x8A#8 1#16 (readSel .d s) s := rfl
@[simp] theorem exec_adcE (s : State) : exec .adcE s = adcTo 0x8B#8 1#16 (readSel .e s) s := rfl
@[simp] theorem exec_adcH (s : State) : exec .adcH s = adcTo 0x8C#8 1#16 (readSel .h s) s := rfl
@[simp] theorem exec_adcL (s : State) : exec .adcL s = adcTo 0x8D#8 1#16 (readSel .l s) s := rfl
@[simp] theorem exec_adcM (s : State) : exec .adcM s = adcTo 0x8E#8 1#16 (readSel .m s) s := rfl
@[simp] theorem exec_adcA (s : State) : exec .adcA s = adcTo 0x8F#8 1#16 (readSel .a s) s := rfl
@[simp] theorem exec_subB (s : State) : exec .subB s = subFrom 0x90#8 1#16 (readSel .b s) s := rfl
@[simp] theorem exec_subC (s : State) : exec .subC s = subFrom 0x91#8 1#16 (readSel .c s) s := rfl
@[simp] theorem exec_subD (s : State) : exec .subD s = subFrom 0x92#8 1#16 (readSel .d s) s := rfl
@[simp] theorem exec_subE (s : State) : exec .subE s = subFrom 0x93#8 1#16 (readSel .e s) s := rfl
@[simp] theorem exec_subH (s : State) : exec .subH s = subFrom 0x94#8 1#16 (readSel .h s) s := rfl
@[simp] theorem exec_subL (s : State) : exec .subL s = subFrom 0x95#8 1#16 (readSel .l s) s := rfl
@[simp] theorem exec_subM (s : State) : exec .subM s = subFrom 0x96#8 1#16 (readSel .m s) s := rfl
@[simp] theorem exec_subA (s : State) : exec .subA s = subFrom 0x97#8 1#16 (readSel .a s) s := rfl
@[simp] theorem exec_sbbB (s : State) : exec .sbbB s = sbbFrom 0x98#8 1#16 (readSel .b s) s := rfl
@[simp] theorem exec_sbbC (s : State) : exec .sbbC s = sbbFrom 0x99#8 1#16 (readSel .c s) s := rfl
@[simp] theorem exec_sbbD (s : State) : exec .sbbD s = sbbFrom 0x9A#8 1#16 (readSel .d s) s := rfl
@[simp] theorem exec_sbbE (s : State) : exec .sbbE s = sbbFrom 0x9B#8 1#16 (readSel .e s) s := rfl
@[simp] theorem exec_sbbH (s : State) : exec .sbbH s = sbbFrom 0x9C#8 1#16 (readSel .h s) s := rfl
@[simp] theorem exec_sbbL (s : State) : exec .sbbL s = sbbFrom 0x9D#8 1#16 (readSel .l s) s := rfl
@[simp] theorem exec_sbbM (s : State) : exec .sbbM s = sbbFrom 0x9E#8 1#16 (readSel .m s) s := rfl
@[simp] theorem exec_sbbA (s : State) : exec .sbbA s = sbbFrom 0x9F#8 1#16 (readSel .a s) s := rfl
@[simp] theorem exec_anaB (s : State) : exec .anaB s = andWith 0xA0#8 1#16 (readSel .b s) s := rfl
@[simp] theorem exec_anaC (s : State) : exec .anaC s = andWith 0xA1#8 1#16 (readSel .c s) s := rfl
@[simp] theorem exec_anaD (s : State) : exec .anaD s = andWith 0xA2#8 1#16 (readSel .d s) s := rfl
@[simp] theorem exec_anaE (s : State) : exec .anaE s = andWith 0xA3#8 1#16 (readSel .e s) s := rfl
@[simp] theorem exec_anaH (s : State) : exec .anaH s = andWith 0xA4#8 1#16 (readSel .h s) s := rfl
@[simp] theorem exec_anaL (s : State) : exec .anaL s = andWith 0xA5#8 1#16 (readSel .l s) s := rfl
@[simp] theorem exec_anaM (s : State) : exec .anaM s = andWith 0xA6#8 1#16 (readSel .m s) s := rfl
@[simp] theorem exec_anaA (s : State) : exec .anaA s = andWith 0xA7#8 1#16 (readSel .a s) s := rfl
@[simp] theorem exec_xraB (s : State) : exec .xraB s = xorWith 0xA8#8 1#16 (readSel .b s) s := rfl
@[simp] theorem exec_xraC (s : State) : exec .xraC s = xorWith 0xA9#8 1#16 (readSel .c s) s := rfl
@[simp] theorem exec_xraD (s : State) : exec .xraD s = xorWith 0xAA#8 1#16 (readSel .d s) s := rfl
@[simp] theorem exec_xraE (s : State) : exec .xraE s = xorWith 0xAB#8 1#16 (readSel .e s) s := rfl
@[simp] theorem exec_xraH (s : State) : exec .xraH s = xorWith 0xAC#8 1#16 (readSel .h s) s := rfl
@[simp] theorem exec_xraL (s : State) : exec .xraL s = xorWith 0xAD#8 1#16 (readSel .l s) s := rfl
@[simp] theorem exec_xraM (s : State) : exec .xraM s = xorWith 0xAE#8 1#16 (readSel .m s) s := rfl
@[simp] theorem exec_xraA (s : State) : exec .xraA s = xorWith 0xAF#8 1#16 (readSel .a s) s := rfl
@[simp] theorem exec_oraB (s : State) : exec .oraB s = orWith 0xB0#8 1#16 (readSel .b s) s := rfl
@[simp] theorem exec_oraC (s : State) : exec .oraC s = orWith 0xB1#8 1#16 (readSel .c s) s := rfl
@[simp] theorem exec_oraD (s : State) : exec .oraD s = orWith 0xB2#8 1#16 (readSel .d s) s := rfl
@[simp] theorem exec_oraE (s : State) : exec .oraE s = orWith 0xB3#8 1#16 (readSel .e s) s := rfl
@[simp] theorem exec_oraH (s : State) : exec .oraH s = orWith 0xB4#8 1#16 (readSel .h s) s := rfl
@[simp] theorem exec_oraL (s : State) : exec .oraL s = orWith 0xB5#8 1#16 (readSel .l s) s := rfl
@[simp] theorem exec_oraM (s : State) : exec .oraM s = orWith 0xB6#8 1#16 (readSel .m s) s := rfl
@[simp] theorem exec_oraA (s : State) : exec .oraA s = orWith 0xB7#8 1#16 (readSel .a s) s := rfl
@[simp] theorem exec_cmpB (s : State) : exec .cmpB s = compare 0xB8#8 1#16 (readSel .b s) s := rfl
@[simp] theorem exec_cmpC (s : State) : exec .cmpC s = compare 0xB9#8 1#16 (readSel .c s) s := rfl
@[simp] theorem exec_cmpD (s : State) : exec .cmpD s = compare 0xBA#8 1#16 (readSel .d s) s := rfl
@[simp] theorem exec_cmpE (s : State) : exec .cmpE s = compare 0xBB#8 1#16 (readSel .e s) s := rfl
@[simp] theorem exec_cmpH (s : State) : exec .cmpH s = compare 0xBC#8 1#16 (readSel .h s) s := rfl
@[simp] theorem exec_cmpL (s : State) : exec .cmpL s = compare 0xBD#8 1#16 (readSel .l s) s := rfl
@[simp] theorem exec_cmpM (s : State) : exec .cmpM s = compare 0xBE#8 1#16 (readSel .m s) s := rfl
@[simp] theorem exec_cmpA (s : State) : exec .cmpA s = compare 0xBF#8 1#16 (readSel .a s) s := rfl
@[simp] theorem exec_rnz (s : State) : exec .rnz s = retIf 0xC0#8 .nz s := rfl
@[simp] theorem exec_popB (s : State) : exec .popB s = popPair 0xC1#8 .bc s := rfl
@[simp] theorem exec_jnz (a : Word) (s : State) : exec (.jnz a) s = jumpIf 0xC2#8 .nz a s := rfl
@[simp] theorem exec_jmp (a : Word) (s : State) : exec (.jmp a) s = jump 0xC3#8 a s := rfl
@[simp] theorem exec_cnz (a : Word) (s : State) : exec (.cnz a) s = callIf 0xC4#8 .nz a s := rfl
@[simp] theorem exec_pushB (s : State) : exec .pushB s = pushPair 0xC5#8 .bc s := rfl
@[simp] theorem exec_adi (d : Byte) (s : State) : exec (.adi d) s = addTo 0xC6#8 2#16 d s := rfl
@[simp] theorem exec_rst0 (s : State) : exec .rst0 s = restart 0xC7#8 0#16 s := rfl
@[simp] theorem exec_rz (s : State) : exec .rz s = retIf 0xC8#8 .z s := rfl
@[simp] theorem exec_ret (s : State) : exec .ret s = ret 0xC9#8 s := rfl
@[simp] theorem exec_jz (a : Word) (s : State) : exec (.jz a) s = jumpIf 0xCA#8 .z a s := rfl
@[simp] theorem exec_jmpCB (a : Word) (s : State) : exec (.jmpCB a) s = jump 0xCB#8 a s := rfl
@[simp] theorem exec_cz (a : Word) (s : State) : exec (.cz a) s = callIf 0xCC#8 .z a s := rfl
@[simp] theorem exec_call (a : Word) (s : State) : exec (.call a) s = call 0xCD#8 a s := rfl
@[simp] theorem exec_aci (d : Byte) (s : State) : exec (.aci d) s = adcTo 0xCE#8 2#16 d s := rfl
@[simp] theorem exec_rst1 (s : State) : exec .rst1 s = restart 0xCF#8 8#16 s := rfl
@[simp] theorem exec_rnc (s : State) : exec .rnc s = retIf 0xD0#8 .nc s := rfl
@[simp] theorem exec_popD (s : State) : exec .popD s = popPair 0xD1#8 .de s := rfl
@[simp] theorem exec_jnc (a : Word) (s : State) : exec (.jnc a) s = jumpIf 0xD2#8 .nc a s := rfl
@[simp] theorem exec_cnc (a : Word) (s : State) : exec (.cnc a) s = callIf 0xD4#8 .nc a s := rfl
@[simp] theorem exec_pushD (s : State) : exec .pushD s = pushPair 0xD5#8 .de s := rfl
@[simp] theorem exec_sui (d : Byte) (s : State) : exec (.sui d) s = subFrom 0xD6#8 2#16 d s := rfl
@[simp] theorem exec_rst2 (s : State) : exec .rst2 s = restart 0xD7#8 16#16 s := rfl
@[simp] theorem exec_rc (s : State) : exec .rc s = retIf 0xD8#8 .c s := rfl
@[simp] theorem exec_retD9 (s : State) : exec .retD9 s = ret 0xD9#8 s := rfl
@[simp] theorem exec_jc (a : Word) (s : State) : exec (.jc a) s = jumpIf 0xDA#8 .c a s := rfl
@[simp] theorem exec_cc (a : Word) (s : State) : exec (.cc a) s = callIf 0xDC#8 .c a s := rfl
@[simp] theorem exec_callDD (a : Word) (s : State) : exec (.callDD a) s = call 0xDD#8 a s := rfl
@[simp] theorem exec_sbi (d : Byte) (s : State) : exec (.sbi d) s = sbbFrom 0xDE#8 2#16 d s := rfl
@[simp] theorem exec_rst3 (s : State) : exec .rst3 s = restart 0xDF#8 24#16 s := rfl
@[simp] theorem exec_rpo (s : State) : exec .rpo s = retIf 0xE0#8 .po s := rfl
@[simp] theorem exec_popH (s : State) : exec .popH s = popPair 0xE1#8 .hl s := rfl
@[simp] theorem exec_jpo (a : Word) (s : State) : exec (.jpo a) s = jumpIf 0xE2#8 .po a s := rfl
@[simp] theorem exec_cpo (a : Word) (s : State) : exec (.cpo a) s = callIf 0xE4#8 .po a s := rfl
@[simp] theorem exec_pushH (s : State) : exec .pushH s = pushPair 0xE5#8 .hl s := rfl
@[simp] theorem exec_ani (d : Byte) (s : State) : exec (.ani d) s = andWith 0xE6#8 2#16 d s := rfl
@[simp] theorem exec_rst4 (s : State) : exec .rst4 s = restart 0xE7#8 32#16 s := rfl
@[simp] theorem exec_rpe (s : State) : exec .rpe s = retIf 0xE8#8 .pe s := rfl
@[simp] theorem exec_jpe (a : Word) (s : State) : exec (.jpe a) s = jumpIf 0xEA#8 .pe a s := rfl
@[simp] theorem exec_cpe (a : Word) (s : State) : exec (.cpe a) s = callIf 0xEC#8 .pe a s := rfl
@[simp] theorem exec_callED (a : Word) (s : State) : exec (.callED a) s = call 0xED#8 a s := rfl
@[simp] theorem exec_xri (d : Byte) (s : State) : exec (.xri d) s = xorWith 0xEE#8 2#16 d s := rfl
@[simp] theorem exec_rst5 (s : State) : exec .rst5 s = restart 0xEF#8 40#16 s := rfl
@[simp] theorem exec_rp (s : State) : exec .rp s = retIf 0xF0#8 .p s := rfl
@[simp] theorem exec_popPSW (s : State) : exec .popPSW s = popPair 0xF1#8 .psw s := rfl
@[simp] theorem exec_jp (a : Word) (s : State) : exec (.jp a) s = jumpIf 0xF2#8 .p a s := rfl
@[simp] theorem exec_cp (a : Word) (s : State) : exec (.cp a) s = callIf 0xF4#8 .p a s := rfl
@[simp] theorem exec_pushPSW (s : State) : exec .pushPSW s = pushPair 0xF5#8 .psw s := rfl
@[simp] theorem exec_ori (d : Byte) (s : State) : exec (.ori d) s = orWith 0xF6#8 2#16 d s := rfl
@[simp] theorem exec_rst6 (s : State) : exec .rst6 s = restart 0xF7#8 48#16 s := rfl
@[simp] theorem exec_rm (s : State) : exec .rm s = retIf 0xF8#8 .m s := rfl
@[simp] theorem exec_jm (a : Word) (s : State) : exec (.jm a) s = jumpIf 0xFA#8 .m a s := rfl
@[simp] theorem exec_cm (a : Word) (s : State) : exec (.cm a) s = callIf 0xFC#8 .m a s := rfl
@[simp] theorem exec_callFD (a : Word) (s : State) : exec (.callFD a) s = call 0xFD#8 a s := rfl
@[simp] theorem exec_cpi (d : Byte) (s : State) : exec (.cpi d) s = compare 0xFE#8 2#16 d s := rfl
@[simp] theorem exec_rst7 (s : State) : exec .rst7 s = restart 0xFF#8 56#16 s := rfl

end Sys2Proof.Machine
end

