-- ==== Sys2Proof/Laws/Flags.lean ====
section
/-!
SUPPORT. The laws of the flag byte and of the flag computations: one lemma per computation says its result and every
flag it leaves.
-/

namespace Sys2Proof.Machine

/-- Setting a flag changes its own bit and no other (10_state.md R33). -/
theorem getLsbD_setFlag (f : Byte) (g : Flag) (v : Bool) (n : Nat) :
    (setFlag f g v).getLsbD n = if n = g.bit then v else f.getLsbD n := by
  have hg : g.bit < 8 := by cases g <;> decide
  by_cases hn : n = g.bit
  · subst hn
    cases v <;> simp [setFlag, hg]
  · have hn' : g.bit ≠ n := fun h => hn h.symm
    cases v
    · by_cases h8 : n < 8
      · simp [setFlag, hn, h8]
      · simp [setFlag, hn, BitVec.getLsbD_of_ge f n (by omega)]
    · simp [setFlag, hn, hn']

theorem Flag.bit_inj {g h : Flag} : g.bit = h.bit ↔ g = h := by
  cases g <;> cases h <;> simp [Flag.bit]

/-- Reading a flag after setting one. -/
theorem getFlag_setFlag (f : Byte) (g h : Flag) (v : Bool) :
    getFlag (setFlag f g v) h = if h = g then v else getFlag f h := by
  simp [getFlag, getLsbD_setFlag, Flag.bit_inj]

/-- The bits `SZP` writes and those it keeps (10_state.md R36). -/
theorem getLsbD_szp (v f : Byte) (n : Nat) :
    (szp v f).getLsbD n =
      if n = 2 then parity v else if n = 6 then v == 0#8 else if n = 7 then v.getLsbD 7 else f.getLsbD n := by
  simp only [szp, getLsbD_setFlag, Flag.bit]
  rfl

theorem getFlag_szp (v f : Byte) (g : Flag) :
    getFlag (szp v f) g =
      match g with
      | .s => v.getLsbD 7
      | .z => v == 0#8
      | .p => parity v
      | g => getFlag f g := by
  cases g <;> simp only [getFlag, getLsbD_szp, Flag.bit] <;> simp

/-- `ADDOP` (41_arithmetic.md R151): its result and each flag after it. -/
theorem addOp_spec (a b : Byte) (cin : Bool) (f : Byte) :
    (addOp a b cin f).value.toNat = (a.toNat + b.toNat + cin.toNat) % 256 ∧
    ∀ g, getFlag (addOp a b cin f).flags g =
      match g with
      | .s => (addOp a b cin f).value.getLsbD 7
      | .z => (addOp a b cin f).value == 0#8
      | .p => parity (addOp a b cin f).value
      | .ac => decide (a.toNat % 16 + b.toNat % 16 + cin.toNat > 15)
      | .cy => decide (a.toNat + b.toNat + cin.toNat > 255)
      | .ie => getFlag f .ie := by
  refine ⟨by simp [addOp], fun g => ?_⟩
  cases g <;> simp [addOp, getFlag_szp, getFlag_setFlag]

/-- `SUBOP` (41_arithmetic.md R152): its result and each flag after it. -/
theorem subOp_spec (a b : Byte) (bin : Bool) (f : Byte) :
    (subOp a b bin f).value = BitVec.ofInt 8 ((a.toNat : Int) - b.toNat - bin.toNat) ∧
    ∀ g, getFlag (subOp a b bin f).flags g =
      match g with
      | .s => (subOp a b bin f).value.getLsbD 7
      | .z => (subOp a b bin f).value == 0#8
      | .p => parity (subOp a b bin f).value
      | .ac => decide (a.toNat % 16 + (~~~b).toNat % 16 + (1 - bin.toNat) > 15)
      | .cy => decide ((a.toNat : Int) - b.toNat - bin.toNat < 0)
      | .ie => getFlag f .ie := by
  refine ⟨by simp [subOp], fun g => ?_⟩
  cases g <;> simp [subOp, getFlag_szp, getFlag_setFlag]

/-- INR's increment (41_arithmetic.md R168). -/
theorem incOp_spec (v f : Byte) :
    (incOp v f).value = v + 1#8 ∧
    ∀ g, getFlag (incOp v f).flags g =
      match g with
      | .s => (v + 1#8).getLsbD 7
      | .z => v + 1#8 == 0#8
      | .p => parity (v + 1#8)
      | .ac => decide (v.toNat % 16 = 15)
      | g => getFlag f g := by
  refine ⟨rfl, fun g => ?_⟩
  cases g <;> simp [incOp, getFlag_szp, getFlag_setFlag]

/-- DCR's decrement (41_arithmetic.md R170). -/
theorem decOp_spec (v f : Byte) :
    (decOp v f).value = v - 1#8 ∧
    ∀ g, getFlag (decOp v f).flags g =
      match g with
      | .s => (v - 1#8).getLsbD 7
      | .z => v - 1#8 == 0#8
      | .p => parity (v - 1#8)
      | .ac => decide (v.toNat % 16 ≠ 0)
      | g => getFlag f g := by
  refine ⟨rfl, fun g => ?_⟩
  cases g <;> simp [decOp, getFlag_szp, getFlag_setFlag]

/-- AND (42_logical.md R191). -/
theorem andOp_spec (a b f : Byte) :
    (andOp a b f).value = a &&& b ∧
    ∀ g, getFlag (andOp a b f).flags g =
      match g with
      | .s => (a &&& b).getLsbD 7
      | .z => a &&& b == 0#8
      | .p => parity (a &&& b)
      | .ac => (a ||| b).getLsbD 3
      | .cy => false
      | .ie => getFlag f .ie := by
  refine ⟨rfl, fun g => ?_⟩
  cases g <;> simp [andOp, getFlag_szp, getFlag_setFlag]

/-- Exclusive OR (42_logical.md R194). -/
theorem xorOp_spec (a b f : Byte) :
    (xorOp a b f).value = a ^^^ b ∧
    ∀ g, getFlag (xorOp a b f).flags g =
      match g with
      | .s => (a ^^^ b).getLsbD 7
      | .z => a ^^^ b == 0#8
      | .p => parity (a ^^^ b)
      | .ac => false
      | .cy => false
      | .ie => getFlag f .ie := by
  refine ⟨rfl, fun g => ?_⟩
  cases g <;> simp [xorOp, getFlag_szp, getFlag_setFlag]

/-- OR (42_logical.md R197). -/
theorem orOp_spec (a b f : Byte) :
    (orOp a b f).value = a ||| b ∧
    ∀ g, getFlag (orOp a b f).flags g =
      match g with
      | .s => (a ||| b).getLsbD 7
      | .z => a ||| b == 0#8
      | .p => parity (a ||| b)
      | .ac => false
      | .cy => false
      | .ie => getFlag f .ie := by
  refine ⟨rfl, fun g => ?_⟩
  cases g <;> simp [orOp, getFlag_szp, getFlag_setFlag]

/-- Bits 3 and 1 of F are kept by every computation (10_state.md R31). -/
theorem storage_setFlag (f : Byte) (g : Flag) (v : Bool) {n : Nat} (hn : n = 1 ∨ n = 3) :
    (setFlag f g v).getLsbD n = f.getLsbD n := by
  have : n ≠ g.bit := by rcases hn with rfl | rfl <;> cases g <;> decide
  simp [getLsbD_setFlag, this]

theorem storage_szp (v f : Byte) {n : Nat} (hn : n = 1 ∨ n = 3) : (szp v f).getLsbD n = f.getLsbD n := by
  rcases hn with rfl | rfl <;> simp only [getLsbD_szp] <;> simp

end Sys2Proof.Machine
end

