-- ==== Sys2Proof/Laws/Memory.lean ====
section
/-!
SUPPORT. The laws of memory: a read after a write, what a write leaves alone, and that every operation keeps the
canonical form, in which equal contents are equal lists.
-/

namespace Sys2Proof.Machine.Memory

theorem lookup_erase (m : Memory) (n k : Nat) :
    lookup (erase m n) k = if k = n then unlisted else lookup m k := by
  induction m with
  | nil => simp [erase, lookup]
  | cons c rest ih =>
    obtain ⟨j, v⟩ := c
    by_cases hj : j = n
    · by_cases hk : k = n
      · simpa [erase, hj, hk] using ih
      · have : n ≠ k := fun h => hk h.symm
        simpa [erase, lookup, hj, hk, this] using ih
    · by_cases hjk : j = k
      · have : k ≠ n := fun h => hj (hjk.trans h)
        simp [erase, lookup, hjk, this]
      · simpa [erase, lookup, hj, hjk] using ih

theorem key_of_mem_erase {m : Memory} {n : Nat} {c : Host.Cell} (h : c ∈ erase m n) : c.1 ≠ n := by
  induction m with
  | nil => simp [erase] at h
  | cons d rest ih =>
    obtain ⟨j, v⟩ := d
    by_cases hj : j = n
    · exact ih (by simpa [erase, hj] using h)
    · rcases (by simpa [erase, hj] using h : c = (j, v) ∨ c ∈ erase rest n) with rfl | h
      · exact hj
      · exact ih h

theorem lookup_insert {m : Memory} {n : Nat} (hn : ∀ c ∈ m, c.1 ≠ n) (v : Byte) (k : Nat) :
    lookup (insert m n v) k = if k = n then v else lookup m k := by
  induction m with
  | nil =>
    by_cases hk : k = n
    · simp [insert, lookup, hk]
    · have hk' : n ≠ k := fun h => hk h.symm
      simp [insert, lookup, hk, hk']
  | cons c rest ih =>
    obtain ⟨j, w⟩ := c
    have hj : j ≠ n := hn (j, w) (by simp)
    have ih := ih fun c hc => hn c (by simp [hc])
    by_cases hlt : n < j
    · by_cases hk : k = n
      · simp [insert, lookup, hlt, hk]
      · have hk' : n ≠ k := fun h => hk h.symm
        simp [insert, lookup, hlt, hk, hk']
    · by_cases hjk : j = k
      · subst hjk
        simp [insert, lookup, hlt, hj]
      · simpa [insert, lookup, hlt, hjk] using ih

/-- A read after a write (20_memory.md R62): the byte written at its address, every other byte as before. -/
theorem read_write (m : Memory) (addr x : Word) (v : Byte) :
    read (write m addr v) x = if x = addr then v else read m x := by
  have hx : x.toNat = addr.toNat ↔ x = addr := BitVec.toNat_inj
  unfold read write
  split
  · next hv => simp [lookup_erase, hx, hv]
  · simp only [lookup_insert fun _ hc => key_of_mem_erase hc, lookup_erase, hx]
    split <;> simp

@[simp] theorem read_write_same (m : Memory) (addr : Word) (v : Byte) : read (write m addr v) addr = v := by
  simp [read_write]

theorem read_write_other (m : Memory) {addr x : Word} (h : x ≠ addr) (v : Byte) :
    read (write m addr v) x = read m x := by simp [read_write, h]

/-! ### The canonical form -/

theorem wfFrom_mono {lo lo' : Nat} {m : Memory} (hle : lo' ≤ lo) (h : wfFrom lo m = true) : wfFrom lo' m = true := by
  cases m with
  | nil => rfl
  | cons c rest =>
    simp only [wfFrom, Bool.and_eq_true, decide_eq_true_eq] at h ⊢
    exact ⟨⟨⟨by omega, h.1.1.2⟩, h.1.2⟩, h.2⟩

theorem wfFrom_erase {lo : Nat} {m : Memory} (n : Nat) (h : wfFrom lo m = true) : wfFrom lo (erase m n) = true := by
  induction m generalizing lo with
  | nil => rfl
  | cons c rest ih =>
    obtain ⟨j, w⟩ := c
    simp only [wfFrom, Bool.and_eq_true, decide_eq_true_eq] at h
    by_cases hj : j = n
    · simpa [erase, hj] using wfFrom_mono (by omega) (ih h.2)
    · simp [erase, hj, wfFrom, h.1, ih h.2]

theorem wfFrom_insert {lo : Nat} {m : Memory} {n : Nat} {v : Byte} (h : wfFrom lo m = true)
    (hn : ∀ c ∈ m, c.1 ≠ n) (hlo : lo ≤ n) (hi : n < 65536) (hv : v ≠ unlisted) :
    wfFrom lo (insert m n v) = true := by
  induction m generalizing lo with
  | nil => simp [insert, wfFrom, hlo, hi, hv]
  | cons c rest ih =>
    obtain ⟨j, w⟩ := c
    have hj : j ≠ n := hn (j, w) (by simp)
    simp only [wfFrom, Bool.and_eq_true, decide_eq_true_eq] at h
    by_cases hlt : n < j
    · simp [insert, hlt, wfFrom, hlo, hi, hv, h.1.1.2, h.1.2, h.2, Nat.succ_le_of_lt hlt]
    · have := ih h.2 (fun c hc => hn c (by simp [hc])) (by omega)
      simp [insert, hlt, wfFrom, h.1, this]

/-- A write keeps the canonical form. -/
@[simp] theorem wf_write {m : Memory} (h : wf m = true) (addr : Word) (v : Byte) : wf (write m addr v) = true := by
  unfold write wf
  split
  · exact wfFrom_erase _ h
  · next hv => exact wfFrom_insert (wfFrom_erase _ h) (fun _ hc => key_of_mem_erase hc) (Nat.zero_le _) addr.isLt hv

theorem wf_nil : wf [] = true := rfl

/-- Loading an image keeps the canonical form. -/
theorem wf_load {m : Memory} (h : wf m = true) (addr : Word) (bytes : List Byte) : wf (load m addr bytes) = true := by
  induction bytes generalizing m addr with
  | nil => exact h
  | cons v rest ih => exact ih (wf_write h addr v) _

theorem lookup_of_lt {lo n : Nat} {m : Memory} (h : wfFrom lo m = true) (hn : n < lo) : lookup m n = unlisted := by
  induction m generalizing lo with
  | nil => rfl
  | cons c rest ih =>
    obtain ⟨j, w⟩ := c
    simp only [wfFrom, Bool.and_eq_true, decide_eq_true_eq] at h
    have hj : j ≠ n := by omega
    simpa [lookup, hj] using ih h.2 (by omega)

theorem eq_of_lookup_eq {lo : Nat} {m m' : Memory} (h : wfFrom lo m = true) (h' : wfFrom lo m' = true)
    (heq : ∀ n, n < 65536 → lookup m n = lookup m' n) : m = m' := by
  induction m generalizing lo m' with
  | nil =>
    cases m' with
    | nil => rfl
    | cons c rest =>
      obtain ⟨j, w⟩ := c
      simp only [wfFrom, Bool.and_eq_true, decide_eq_true_eq, bne_iff_ne] at h'
      exact absurd (by simpa [lookup] using (heq j h'.1.1.2).symm) h'.1.2
  | cons c rest ih =>
    obtain ⟨j, w⟩ := c
    simp only [wfFrom, Bool.and_eq_true, decide_eq_true_eq, bne_iff_ne] at h
    have hjw : lookup ((j, w) :: rest) j = w := by simp [lookup]
    cases m' with
    | nil => exact absurd (by simpa [lookup] using heq j h.1.1.2) h.1.2
    | cons c' rest' =>
      obtain ⟨j', w'⟩ := c'
      simp only [wfFrom, Bool.and_eq_true, decide_eq_true_eq, bne_iff_ne] at h'
      have hjw' : lookup ((j', w') :: rest') j' = w' := by simp [lookup]
      rcases Nat.lt_trichotomy j j' with hlt | rfl | hlt
      · have hne : j' ≠ j := by omega
        have h0 : lookup ((j', w') :: rest') j = unlisted := by
          simpa [lookup, hne] using lookup_of_lt h'.2 (by omega : j < j' + 1)
        exact absurd (hjw.symm.trans ((heq j h.1.1.2).trans h0)) h.1.2
      · obtain rfl : w = w' := hjw.symm.trans ((heq j h.1.1.2).trans hjw')
        congr 1
        refine ih h.2 h'.2 fun n hn => ?_
        by_cases hjn : n ≤ j
        · rw [lookup_of_lt h.2 (by omega), lookup_of_lt h'.2 (by omega)]
        · have hne : j ≠ n := by omega
          simpa [lookup, hne] using heq n hn
      · have hne : j ≠ j' := by omega
        have h0 : lookup ((j, w) :: rest) j' = unlisted := by
          simpa [lookup, hne] using lookup_of_lt h.2 (by omega : j' < j + 1)
        exact absurd (hjw'.symm.trans ((heq j' h'.1.1.2).symm.trans h0)) h'.1.2

/-- In canonical form, memories with the same bytes are the same data. -/
theorem ext_of_wf {m m' : Memory} (h : wf m = true) (h' : wf m' = true) (heq : ∀ x, read m x = read m' x) : m = m' :=
  eq_of_lookup_eq h h' fun n hn => by
    have hx := heq (BitVec.ofNat 16 n)
    have ht : (BitVec.ofNat 16 n).toNat = n := by simp; omega
    simpa only [read, ht] using hx

end Sys2Proof.Machine.Memory
end

