-- ==== Sys2Proof/Laws/State.lean ====
section
/-!
SUPPORT. What each named update of the state does to each field: one lemma per field per update, so that no later proof
unfolds a record update.
-/

namespace Sys2Proof.Machine

/-! ### `advance` -/

@[simp] theorem advance_a (len : Word) (s : State) : (advance len s).a = s.a := rfl
@[simp] theorem advance_b (len : Word) (s : State) : (advance len s).b = s.b := rfl
@[simp] theorem advance_c (len : Word) (s : State) : (advance len s).c = s.c := rfl
@[simp] theorem advance_d (len : Word) (s : State) : (advance len s).d = s.d := rfl
@[simp] theorem advance_e (len : Word) (s : State) : (advance len s).e = s.e := rfl
@[simp] theorem advance_h (len : Word) (s : State) : (advance len s).h = s.h := rfl
@[simp] theorem advance_l (len : Word) (s : State) : (advance len s).l = s.l := rfl
@[simp] theorem advance_f (len : Word) (s : State) : (advance len s).f = s.f := rfl
@[simp] theorem advance_sp (len : Word) (s : State) : (advance len s).sp = s.sp := rfl
@[simp] theorem advance_pc (len : Word) (s : State) : (advance len s).pc = s.pc + len := rfl
@[simp] theorem advance_mem (len : Word) (s : State) : (advance len s).mem = s.mem := rfl
@[simp] theorem advance_sw1 (len : Word) (s : State) : (advance len s).sw1 = s.sw1 := rfl
@[simp] theorem advance_sw2 (len : Word) (s : State) : (advance len s).sw2 = s.sw2 := rfl
@[simp] theorem advance_shiftHi (len : Word) (s : State) : (advance len s).shiftHi = s.shiftHi := rfl
@[simp] theorem advance_shiftLo (len : Word) (s : State) : (advance len s).shiftLo = s.shiftLo := rfl
@[simp] theorem advance_shiftAmt (len : Word) (s : State) : (advance len s).shiftAmt = s.shiftAmt := rfl
@[simp] theorem advance_ack (len : Word) (s : State) : (advance len s).ack = s.ack := rfl
@[simp] theorem advance_cyc (len : Word) (s : State) : (advance len s).cyc = s.cyc := rfl
@[simp] theorem advance_last (len : Word) (s : State) : (advance len s).last = s.last := rfl
@[simp] theorem advance_icount (len : Word) (s : State) : (advance len s).icount = s.icount := rfl
@[simp] theorem advance_fault (len : Word) (s : State) : (advance len s).fault = s.fault := rfl
@[simp] theorem advance_config (len : Word) (s : State) : (advance len s).config = s.config := rfl
@[simp] theorem advance_inputs (len : Word) (s : State) : (advance len s).inputs = s.inputs := rfl
@[simp] theorem advance_draws (len : Word) (s : State) : (advance len s).draws = s.draws := rfl
@[simp] theorem advance_frames (len : Word) (s : State) : (advance len s).frames = s.frames := rfl

/-! ### `charge` -/

@[simp] theorem charge_a (op : Byte) (taken : Bool) (s : State) : (charge op taken s).a = s.a := rfl
@[simp] theorem charge_b (op : Byte) (taken : Bool) (s : State) : (charge op taken s).b = s.b := rfl
@[simp] theorem charge_c (op : Byte) (taken : Bool) (s : State) : (charge op taken s).c = s.c := rfl
@[simp] theorem charge_d (op : Byte) (taken : Bool) (s : State) : (charge op taken s).d = s.d := rfl
@[simp] theorem charge_e (op : Byte) (taken : Bool) (s : State) : (charge op taken s).e = s.e := rfl
@[simp] theorem charge_h (op : Byte) (taken : Bool) (s : State) : (charge op taken s).h = s.h := rfl
@[simp] theorem charge_l (op : Byte) (taken : Bool) (s : State) : (charge op taken s).l = s.l := rfl
@[simp] theorem charge_f (op : Byte) (taken : Bool) (s : State) : (charge op taken s).f = s.f := rfl
@[simp] theorem charge_sp (op : Byte) (taken : Bool) (s : State) : (charge op taken s).sp = s.sp := rfl
@[simp] theorem charge_pc (op : Byte) (taken : Bool) (s : State) : (charge op taken s).pc = s.pc := rfl
@[simp] theorem charge_mem (op : Byte) (taken : Bool) (s : State) : (charge op taken s).mem = s.mem := rfl
@[simp] theorem charge_sw1 (op : Byte) (taken : Bool) (s : State) : (charge op taken s).sw1 = s.sw1 := rfl
@[simp] theorem charge_sw2 (op : Byte) (taken : Bool) (s : State) : (charge op taken s).sw2 = s.sw2 := rfl
@[simp] theorem charge_shiftHi (op : Byte) (taken : Bool) (s : State) : (charge op taken s).shiftHi = s.shiftHi := rfl
@[simp] theorem charge_shiftLo (op : Byte) (taken : Bool) (s : State) : (charge op taken s).shiftLo = s.shiftLo := rfl
@[simp] theorem charge_shiftAmt (op : Byte) (taken : Bool) (s : State) : (charge op taken s).shiftAmt = s.shiftAmt := rfl
@[simp] theorem charge_ack (op : Byte) (taken : Bool) (s : State) : (charge op taken s).ack = s.ack := rfl
@[simp] theorem charge_cyc (op : Byte) (taken : Bool) (s : State) : (charge op taken s).cyc = s.cyc + cycleCost s.config op taken := rfl
@[simp] theorem charge_last (op : Byte) (taken : Bool) (s : State) : (charge op taken s).last = s.last := rfl
@[simp] theorem charge_icount (op : Byte) (taken : Bool) (s : State) : (charge op taken s).icount = s.icount + 1 := rfl
@[simp] theorem charge_fault (op : Byte) (taken : Bool) (s : State) : (charge op taken s).fault = s.fault := rfl
@[simp] theorem charge_config (op : Byte) (taken : Bool) (s : State) : (charge op taken s).config = s.config := rfl
@[simp] theorem charge_inputs (op : Byte) (taken : Bool) (s : State) : (charge op taken s).inputs = s.inputs := rfl
@[simp] theorem charge_draws (op : Byte) (taken : Bool) (s : State) : (charge op taken s).draws = s.draws := rfl
@[simp] theorem charge_frames (op : Byte) (taken : Bool) (s : State) : (charge op taken s).frames = s.frames := rfl

/-! ### `complete` -/

@[simp] theorem complete_a (op : Byte) (len : Word) (s : State) : (complete op len s).a = s.a := rfl
@[simp] theorem complete_b (op : Byte) (len : Word) (s : State) : (complete op len s).b = s.b := rfl
@[simp] theorem complete_c (op : Byte) (len : Word) (s : State) : (complete op len s).c = s.c := rfl
@[simp] theorem complete_d (op : Byte) (len : Word) (s : State) : (complete op len s).d = s.d := rfl
@[simp] theorem complete_e (op : Byte) (len : Word) (s : State) : (complete op len s).e = s.e := rfl
@[simp] theorem complete_h (op : Byte) (len : Word) (s : State) : (complete op len s).h = s.h := rfl
@[simp] theorem complete_l (op : Byte) (len : Word) (s : State) : (complete op len s).l = s.l := rfl
@[simp] theorem complete_f (op : Byte) (len : Word) (s : State) : (complete op len s).f = s.f := rfl
@[simp] theorem complete_sp (op : Byte) (len : Word) (s : State) : (complete op len s).sp = s.sp := rfl
@[simp] theorem complete_pc (op : Byte) (len : Word) (s : State) : (complete op len s).pc = s.pc + len := rfl
@[simp] theorem complete_mem (op : Byte) (len : Word) (s : State) : (complete op len s).mem = s.mem := rfl
@[simp] theorem complete_sw1 (op : Byte) (len : Word) (s : State) : (complete op len s).sw1 = s.sw1 := rfl
@[simp] theorem complete_sw2 (op : Byte) (len : Word) (s : State) : (complete op len s).sw2 = s.sw2 := rfl
@[simp] theorem complete_shiftHi (op : Byte) (len : Word) (s : State) : (complete op len s).shiftHi = s.shiftHi := rfl
@[simp] theorem complete_shiftLo (op : Byte) (len : Word) (s : State) : (complete op len s).shiftLo = s.shiftLo := rfl
@[simp] theorem complete_shiftAmt (op : Byte) (len : Word) (s : State) : (complete op len s).shiftAmt = s.shiftAmt := rfl
@[simp] theorem complete_ack (op : Byte) (len : Word) (s : State) : (complete op len s).ack = s.ack := rfl
@[simp] theorem complete_cyc (op : Byte) (len : Word) (s : State) : (complete op len s).cyc = s.cyc + cycleCost s.config op false := rfl
@[simp] theorem complete_last (op : Byte) (len : Word) (s : State) : (complete op len s).last = s.last := rfl
@[simp] theorem complete_icount (op : Byte) (len : Word) (s : State) : (complete op len s).icount = s.icount + 1 := rfl
@[simp] theorem complete_fault (op : Byte) (len : Word) (s : State) : (complete op len s).fault = s.fault := rfl
@[simp] theorem complete_config (op : Byte) (len : Word) (s : State) : (complete op len s).config = s.config := rfl
@[simp] theorem complete_inputs (op : Byte) (len : Word) (s : State) : (complete op len s).inputs = s.inputs := rfl
@[simp] theorem complete_draws (op : Byte) (len : Word) (s : State) : (complete op len s).draws = s.draws := rfl
@[simp] theorem complete_frames (op : Byte) (len : Word) (s : State) : (complete op len s).frames = s.frames := rfl

/-! ### `raise` -/

@[simp] theorem raise_a (r : FatalFault) (s : State) : (raise r s).a = s.a := rfl
@[simp] theorem raise_b (r : FatalFault) (s : State) : (raise r s).b = s.b := rfl
@[simp] theorem raise_c (r : FatalFault) (s : State) : (raise r s).c = s.c := rfl
@[simp] theorem raise_d (r : FatalFault) (s : State) : (raise r s).d = s.d := rfl
@[simp] theorem raise_e (r : FatalFault) (s : State) : (raise r s).e = s.e := rfl
@[simp] theorem raise_h (r : FatalFault) (s : State) : (raise r s).h = s.h := rfl
@[simp] theorem raise_l (r : FatalFault) (s : State) : (raise r s).l = s.l := rfl
@[simp] theorem raise_f (r : FatalFault) (s : State) : (raise r s).f = s.f := rfl
@[simp] theorem raise_sp (r : FatalFault) (s : State) : (raise r s).sp = s.sp := rfl
@[simp] theorem raise_pc (r : FatalFault) (s : State) : (raise r s).pc = s.pc := rfl
@[simp] theorem raise_mem (r : FatalFault) (s : State) : (raise r s).mem = s.mem := rfl
@[simp] theorem raise_sw1 (r : FatalFault) (s : State) : (raise r s).sw1 = s.sw1 := rfl
@[simp] theorem raise_sw2 (r : FatalFault) (s : State) : (raise r s).sw2 = s.sw2 := rfl
@[simp] theorem raise_shiftHi (r : FatalFault) (s : State) : (raise r s).shiftHi = s.shiftHi := rfl
@[simp] theorem raise_shiftLo (r : FatalFault) (s : State) : (raise r s).shiftLo = s.shiftLo := rfl
@[simp] theorem raise_shiftAmt (r : FatalFault) (s : State) : (raise r s).shiftAmt = s.shiftAmt := rfl
@[simp] theorem raise_ack (r : FatalFault) (s : State) : (raise r s).ack = s.ack := rfl
@[simp] theorem raise_cyc (r : FatalFault) (s : State) : (raise r s).cyc = s.cyc := rfl
@[simp] theorem raise_last (r : FatalFault) (s : State) : (raise r s).last = s.last := rfl
@[simp] theorem raise_icount (r : FatalFault) (s : State) : (raise r s).icount = s.icount := rfl
@[simp] theorem raise_fault (r : FatalFault) (s : State) : (raise r s).fault = some r := rfl
@[simp] theorem raise_config (r : FatalFault) (s : State) : (raise r s).config = s.config := rfl
@[simp] theorem raise_inputs (r : FatalFault) (s : State) : (raise r s).inputs = s.inputs := rfl
@[simp] theorem raise_draws (r : FatalFault) (s : State) : (raise r s).draws = s.draws := rfl
@[simp] theorem raise_frames (r : FatalFault) (s : State) : (raise r s).frames = s.frames := rfl

/-! ### `endSideEffect` -/

@[simp] theorem endSideEffect_a (s : State) : (endSideEffect s).a = s.a := rfl
@[simp] theorem endSideEffect_b (s : State) : (endSideEffect s).b = s.b := rfl
@[simp] theorem endSideEffect_c (s : State) : (endSideEffect s).c = s.c := rfl
@[simp] theorem endSideEffect_d (s : State) : (endSideEffect s).d = s.d := rfl
@[simp] theorem endSideEffect_e (s : State) : (endSideEffect s).e = s.e := rfl
@[simp] theorem endSideEffect_h (s : State) : (endSideEffect s).h = s.h := rfl
@[simp] theorem endSideEffect_l (s : State) : (endSideEffect s).l = s.l := rfl
@[simp] theorem endSideEffect_f (s : State) : (endSideEffect s).f = s.f := rfl
@[simp] theorem endSideEffect_sp (s : State) : (endSideEffect s).sp = s.sp := rfl
@[simp] theorem endSideEffect_pc (s : State) : (endSideEffect s).pc = s.pc := rfl
@[simp] theorem endSideEffect_mem (s : State) : (endSideEffect s).mem = s.mem := rfl
@[simp] theorem endSideEffect_sw1 (s : State) : (endSideEffect s).sw1 = (nextSwitches s).1 := rfl
@[simp] theorem endSideEffect_sw2 (s : State) : (endSideEffect s).sw2 = (nextSwitches s).2 := rfl
@[simp] theorem endSideEffect_shiftHi (s : State) : (endSideEffect s).shiftHi = s.shiftHi := rfl
@[simp] theorem endSideEffect_shiftLo (s : State) : (endSideEffect s).shiftLo = s.shiftLo := rfl
@[simp] theorem endSideEffect_shiftAmt (s : State) : (endSideEffect s).shiftAmt = s.shiftAmt := rfl
@[simp] theorem endSideEffect_ack (s : State) : (endSideEffect s).ack = s.ack := rfl
@[simp] theorem endSideEffect_cyc (s : State) : (endSideEffect s).cyc = s.cyc := rfl
@[simp] theorem endSideEffect_last (s : State) : (endSideEffect s).last = s.last := rfl
@[simp] theorem endSideEffect_icount (s : State) : (endSideEffect s).icount = s.icount := rfl
@[simp] theorem endSideEffect_fault (s : State) : (endSideEffect s).fault = s.fault := rfl
@[simp] theorem endSideEffect_config (s : State) : (endSideEffect s).config = s.config := rfl
@[simp] theorem endSideEffect_inputs (s : State) : (endSideEffect s).inputs = s.inputs.tail := rfl
@[simp] theorem endSideEffect_draws (s : State) : (endSideEffect s).draws = s.draws + 1 := rfl
@[simp] theorem endSideEffect_frames (s : State) : (endSideEffect s).frames = videoFrame s :: s.frames := rfl

/-! ### `writeSel`: the fields no selector writes -/

@[simp] theorem writeSel_f (i : Sel) (v : Byte) (s : State) : (writeSel i v s).f = s.f := by cases i <;> rfl
@[simp] theorem writeSel_sp (i : Sel) (v : Byte) (s : State) : (writeSel i v s).sp = s.sp := by cases i <;> rfl
@[simp] theorem writeSel_pc (i : Sel) (v : Byte) (s : State) : (writeSel i v s).pc = s.pc := by cases i <;> rfl
@[simp] theorem writeSel_sw1 (i : Sel) (v : Byte) (s : State) : (writeSel i v s).sw1 = s.sw1 := by cases i <;> rfl
@[simp] theorem writeSel_sw2 (i : Sel) (v : Byte) (s : State) : (writeSel i v s).sw2 = s.sw2 := by cases i <;> rfl
@[simp] theorem writeSel_shiftHi (i : Sel) (v : Byte) (s : State) : (writeSel i v s).shiftHi = s.shiftHi := by cases i <;> rfl
@[simp] theorem writeSel_shiftLo (i : Sel) (v : Byte) (s : State) : (writeSel i v s).shiftLo = s.shiftLo := by cases i <;> rfl
@[simp] theorem writeSel_shiftAmt (i : Sel) (v : Byte) (s : State) : (writeSel i v s).shiftAmt = s.shiftAmt := by cases i <;> rfl
@[simp] theorem writeSel_ack (i : Sel) (v : Byte) (s : State) : (writeSel i v s).ack = s.ack := by cases i <;> rfl
@[simp] theorem writeSel_cyc (i : Sel) (v : Byte) (s : State) : (writeSel i v s).cyc = s.cyc := by cases i <;> rfl
@[simp] theorem writeSel_last (i : Sel) (v : Byte) (s : State) : (writeSel i v s).last = s.last := by cases i <;> rfl
@[simp] theorem writeSel_icount (i : Sel) (v : Byte) (s : State) : (writeSel i v s).icount = s.icount := by cases i <;> rfl
@[simp] theorem writeSel_fault (i : Sel) (v : Byte) (s : State) : (writeSel i v s).fault = s.fault := by cases i <;> rfl
@[simp] theorem writeSel_config (i : Sel) (v : Byte) (s : State) : (writeSel i v s).config = s.config := by cases i <;> rfl
@[simp] theorem writeSel_inputs (i : Sel) (v : Byte) (s : State) : (writeSel i v s).inputs = s.inputs := by cases i <;> rfl
@[simp] theorem writeSel_draws (i : Sel) (v : Byte) (s : State) : (writeSel i v s).draws = s.draws := by cases i <;> rfl
@[simp] theorem writeSel_frames (i : Sel) (v : Byte) (s : State) : (writeSel i v s).frames = s.frames := by cases i <;> rfl

/-! ### `writePair`: the fields no selector writes -/

@[simp] theorem writePair_a (i : Pair) (v : Word) (s : State) : (writePair i v s).a = s.a := by cases i <;> rfl
@[simp] theorem writePair_f (i : Pair) (v : Word) (s : State) : (writePair i v s).f = s.f := by cases i <;> rfl
@[simp] theorem writePair_pc (i : Pair) (v : Word) (s : State) : (writePair i v s).pc = s.pc := by cases i <;> rfl
@[simp] theorem writePair_mem (i : Pair) (v : Word) (s : State) : (writePair i v s).mem = s.mem := by cases i <;> rfl
@[simp] theorem writePair_sw1 (i : Pair) (v : Word) (s : State) : (writePair i v s).sw1 = s.sw1 := by cases i <;> rfl
@[simp] theorem writePair_sw2 (i : Pair) (v : Word) (s : State) : (writePair i v s).sw2 = s.sw2 := by cases i <;> rfl
@[simp] theorem writePair_shiftHi (i : Pair) (v : Word) (s : State) : (writePair i v s).shiftHi = s.shiftHi := by cases i <;> rfl
@[simp] theorem writePair_shiftLo (i : Pair) (v : Word) (s : State) : (writePair i v s).shiftLo = s.shiftLo := by cases i <;> rfl
@[simp] theorem writePair_shiftAmt (i : Pair) (v : Word) (s : State) : (writePair i v s).shiftAmt = s.shiftAmt := by cases i <;> rfl
@[simp] theorem writePair_ack (i : Pair) (v : Word) (s : State) : (writePair i v s).ack = s.ack := by cases i <;> rfl
@[simp] theorem writePair_cyc (i : Pair) (v : Word) (s : State) : (writePair i v s).cyc = s.cyc := by cases i <;> rfl
@[simp] theorem writePair_last (i : Pair) (v : Word) (s : State) : (writePair i v s).last = s.last := by cases i <;> rfl
@[simp] theorem writePair_icount (i : Pair) (v : Word) (s : State) : (writePair i v s).icount = s.icount := by cases i <;> rfl
@[simp] theorem writePair_fault (i : Pair) (v : Word) (s : State) : (writePair i v s).fault = s.fault := by cases i <;> rfl
@[simp] theorem writePair_config (i : Pair) (v : Word) (s : State) : (writePair i v s).config = s.config := by cases i <;> rfl
@[simp] theorem writePair_inputs (i : Pair) (v : Word) (s : State) : (writePair i v s).inputs = s.inputs := by cases i <;> rfl
@[simp] theorem writePair_draws (i : Pair) (v : Word) (s : State) : (writePair i v s).draws = s.draws := by cases i <;> rfl
@[simp] theorem writePair_frames (i : Pair) (v : Word) (s : State) : (writePair i v s).frames = s.frames := by cases i <;> rfl

/-! ### `writeStackPair`: the fields no selector writes -/

@[simp] theorem writeStackPair_sp (i : StackPair) (v : Word) (s : State) : (writeStackPair i v s).sp = s.sp := by cases i <;> rfl
@[simp] theorem writeStackPair_pc (i : StackPair) (v : Word) (s : State) : (writeStackPair i v s).pc = s.pc := by cases i <;> rfl
@[simp] theorem writeStackPair_mem (i : StackPair) (v : Word) (s : State) : (writeStackPair i v s).mem = s.mem := by cases i <;> rfl
@[simp] theorem writeStackPair_sw1 (i : StackPair) (v : Word) (s : State) : (writeStackPair i v s).sw1 = s.sw1 := by cases i <;> rfl
@[simp] theorem writeStackPair_sw2 (i : StackPair) (v : Word) (s : State) : (writeStackPair i v s).sw2 = s.sw2 := by cases i <;> rfl
@[simp] theorem writeStackPair_shiftHi (i : StackPair) (v : Word) (s : State) : (writeStackPair i v s).shiftHi = s.shiftHi := by cases i <;> rfl
@[simp] theorem writeStackPair_shiftLo (i : StackPair) (v : Word) (s : State) : (writeStackPair i v s).shiftLo = s.shiftLo := by cases i <;> rfl
@[simp] theorem writeStackPair_shiftAmt (i : StackPair) (v : Word) (s : State) : (writeStackPair i v s).shiftAmt = s.shiftAmt := by cases i <;> rfl
@[simp] theorem writeStackPair_ack (i : StackPair) (v : Word) (s : State) : (writeStackPair i v s).ack = s.ack := by cases i <;> rfl
@[simp] theorem writeStackPair_cyc (i : StackPair) (v : Word) (s : State) : (writeStackPair i v s).cyc = s.cyc := by cases i <;> rfl
@[simp] theorem writeStackPair_last (i : StackPair) (v : Word) (s : State) : (writeStackPair i v s).last = s.last := by cases i <;> rfl
@[simp] theorem writeStackPair_icount (i : StackPair) (v : Word) (s : State) : (writeStackPair i v s).icount = s.icount := by cases i <;> rfl
@[simp] theorem writeStackPair_fault (i : StackPair) (v : Word) (s : State) : (writeStackPair i v s).fault = s.fault := by cases i <;> rfl
@[simp] theorem writeStackPair_config (i : StackPair) (v : Word) (s : State) : (writeStackPair i v s).config = s.config := by cases i <;> rfl
@[simp] theorem writeStackPair_inputs (i : StackPair) (v : Word) (s : State) : (writeStackPair i v s).inputs = s.inputs := by cases i <;> rfl
@[simp] theorem writeStackPair_draws (i : StackPair) (v : Word) (s : State) : (writeStackPair i v s).draws = s.draws := by cases i <;> rfl
@[simp] theorem writeStackPair_frames (i : StackPair) (v : Word) (s : State) : (writeStackPair i v s).frames = s.frames := by cases i <;> rfl

/-! ### `portWrite`: the fields no port holds -/

@[simp] theorem portWrite_a (p v : Byte) (s : State) : (portWrite p v s).a = s.a := by
  unfold portWrite; split <;> (try split) <;> (try split) <;> rfl
@[simp] theorem portWrite_b (p v : Byte) (s : State) : (portWrite p v s).b = s.b := by
  unfold portWrite; split <;> (try split) <;> (try split) <;> rfl
@[simp] theorem portWrite_c (p v : Byte) (s : State) : (portWrite p v s).c = s.c := by
  unfold portWrite; split <;> (try split) <;> (try split) <;> rfl
@[simp] theorem portWrite_d (p v : Byte) (s : State) : (portWrite p v s).d = s.d := by
  unfold portWrite; split <;> (try split) <;> (try split) <;> rfl
@[simp] theorem portWrite_e (p v : Byte) (s : State) : (portWrite p v s).e = s.e := by
  unfold portWrite; split <;> (try split) <;> (try split) <;> rfl
@[simp] theorem portWrite_h (p v : Byte) (s : State) : (portWrite p v s).h = s.h := by
  unfold portWrite; split <;> (try split) <;> (try split) <;> rfl
@[simp] theorem portWrite_l (p v : Byte) (s : State) : (portWrite p v s).l = s.l := by
  unfold portWrite; split <;> (try split) <;> (try split) <;> rfl
@[simp] theorem portWrite_f (p v : Byte) (s : State) : (portWrite p v s).f = s.f := by
  unfold portWrite; split <;> (try split) <;> (try split) <;> rfl
@[simp] theorem portWrite_sp (p v : Byte) (s : State) : (portWrite p v s).sp = s.sp := by
  unfold portWrite; split <;> (try split) <;> (try split) <;> rfl
@[simp] theorem portWrite_pc (p v : Byte) (s : State) : (portWrite p v s).pc = s.pc := by
  unfold portWrite; split <;> (try split) <;> (try split) <;> rfl
@[simp] theorem portWrite_mem (p v : Byte) (s : State) : (portWrite p v s).mem = s.mem := by
  unfold portWrite; split <;> (try split) <;> (try split) <;> rfl
@[simp] theorem portWrite_sw1 (p v : Byte) (s : State) : (portWrite p v s).sw1 = s.sw1 := by
  unfold portWrite; split <;> (try split) <;> (try split) <;> rfl
@[simp] theorem portWrite_sw2 (p v : Byte) (s : State) : (portWrite p v s).sw2 = s.sw2 := by
  unfold portWrite; split <;> (try split) <;> (try split) <;> rfl
@[simp] theorem portWrite_cyc (p v : Byte) (s : State) : (portWrite p v s).cyc = s.cyc := by
  unfold portWrite; split <;> (try split) <;> (try split) <;> rfl
@[simp] theorem portWrite_last (p v : Byte) (s : State) : (portWrite p v s).last = s.last := by
  unfold portWrite; split <;> (try split) <;> (try split) <;> rfl
@[simp] theorem portWrite_icount (p v : Byte) (s : State) : (portWrite p v s).icount = s.icount := by
  unfold portWrite; split <;> (try split) <;> (try split) <;> rfl
@[simp] theorem portWrite_fault (p v : Byte) (s : State) : (portWrite p v s).fault = s.fault := by
  unfold portWrite; split <;> (try split) <;> (try split) <;> rfl
@[simp] theorem portWrite_config (p v : Byte) (s : State) : (portWrite p v s).config = s.config := by
  unfold portWrite; split <;> (try split) <;> (try split) <;> rfl
@[simp] theorem portWrite_inputs (p v : Byte) (s : State) : (portWrite p v s).inputs = s.inputs := by
  unfold portWrite; split <;> (try split) <;> (try split) <;> rfl
@[simp] theorem portWrite_draws (p v : Byte) (s : State) : (portWrite p v s).draws = s.draws := by
  unfold portWrite; split <;> (try split) <;> (try split) <;> rfl
@[simp] theorem portWrite_frames (p v : Byte) (s : State) : (portWrite p v s).frames = s.frames := by
  unfold portWrite; split <;> (try split) <;> (try split) <;> rfl

end Sys2Proof.Machine
end

