-- ==== Sys2Proof/Laws/Word.lean ====
section
/-!
SUPPORT. The two bytes of a word and the word of two bytes undo each other (00_scope.md R10).
-/

namespace Sys2Proof

theorem getLsbD_word (hi lo : Byte) (n : Nat) :
    (word hi lo).getLsbD n = if n < 8 then lo.getLsbD n else hi.getLsbD (n - 8) :=
  (BitVec.getLsbD_append (x := hi) (y := lo) (i := n)).trans (by cases h : decide (n < 8) <;> simp_all)

@[simp] theorem hi8_word (hi lo : Byte) : hi8 (word hi lo) = hi := by
  unfold hi8
  ext i h
  simp [getLsbD_word, h]

@[simp] theorem lo8_word (hi lo : Byte) : lo8 (word hi lo) = lo := by
  unfold lo8
  ext i h
  simp [getLsbD_word, h]

@[simp] theorem word_hi8_lo8 (w : Word) : word (hi8 w) (lo8 w) = w := by
  unfold hi8 lo8 word
  ext i h
  simp only [BitVec.getElem_append, BitVec.getElem_extractLsb']
  split
  · simp [BitVec.getLsbD_eq_getElem h]
  · next h8 => simp [show 8 + (i - 8) = i by omega, BitVec.getLsbD_eq_getElem h]

theorem toNat_word (hi lo : Byte) : (word hi lo).toNat = hi.toNat * 256 + lo.toNat := by
  have h : (word hi lo).toNat = hi.toNat <<< 8 ||| lo.toNat := BitVec.toNat_append hi lo
  have hor : 2 ^ 8 * hi.toNat + lo.toNat = 2 ^ 8 * hi.toNat ||| lo.toNat := Nat.two_pow_add_eq_or_of_lt lo.isLt _
  rw [h, Nat.shiftLeft_eq, Nat.mul_comm hi.toNat, ← hor]

end Sys2Proof
end

