-- ==== Sys2Proof/Laws/Ops.lean ====
section
/-!
SUPPORT. One lemma per shared operation says once everything it can do: word accesses, push and pop, the fetch of an
immediate word, the conclusion of an instruction, the dispatch and the interrupt check.
-/

namespace Sys2Proof.Machine

/-- The state after a push that does not raise (20_memory.md R66). -/
def pushed (v : Word) (s : State) : State :=
  { s with sp := s.sp - 2#16, mem := (s.mem.write (s.sp - 2#16 + 1#16) (hi8 v)).write (s.sp - 2#16) (lo8 v) }

/-- The word at an address, byte by byte. -/
def wordAt (m : Memory) (addr : Word) : Word := word (m.read (addr + 1#16)) (m.read addr)

/-- Every byte after a word write (20_memory.md R64, R68): low byte at `addr`, high byte above it, no other change. -/
theorem read_write16 (m : Memory) (addr v x : Word) :
    ((m.write (addr + 1#16) (hi8 v)).write addr (lo8 v)).read x =
      if x = addr then lo8 v else if x = addr + 1#16 then hi8 v else m.read x := by
  simp only [Memory.read_write]

/-- Reading a word just written gives it back. -/
theorem wordAt_write16 (m : Memory) (addr v : Word) :
    wordAt ((m.write (addr + 1#16) (hi8 v)).write addr (lo8 v)) addr = v := by
  have h : addr + 1#16 ≠ addr := by simp
  rw [wordAt, read_write16, read_write16, if_neg h, if_pos rfl, if_pos rfl, word_hi8_lo8]

theorem memRead16_eq (m : Memory) (addr : Word) :
    memRead16 m addr = if addr = 0xFFFF#16 then .error (.outOfRange 0xFFFF#16) else .ok (wordAt m addr) := rfl

theorem memWrite16_eq (m : Memory) (addr v : Word) :
    memWrite16 m addr v = if addr = 0xFFFF#16 then .error (.outOfRange 0xFFFF#16)
      else .ok ((m.write (addr + 1#16) (hi8 v)).write addr (lo8 v)) := rfl

theorem sub_two_eq_top (x : Word) : x - 2#16 = 0xFFFF#16 ↔ x = 1#16 := by
  constructor <;> intro h
  · bv_omega
  · subst h; rfl

/-- A push raises exactly when SP is 1 (20_memory.md R66). -/
theorem push16_eq (v : Word) (s : State) :
    push16 v s = if s.sp = 1#16 then .error (.outOfRange 0xFFFF#16) else .ok (pushed v s) := by
  simp only [push16, memWrite16_eq, sub_two_eq_top]
  split <;> rfl

/-- A pop raises exactly when SP is 0xFFFF (20_memory.md R67). -/
theorem pop16_eq (s : State) :
    pop16 s = if s.sp = 0xFFFF#16 then .error (.outOfRange 0xFFFF#16)
      else .ok (wordAt s.mem s.sp, { s with sp := s.sp + 2#16 }) := by
  simp only [pop16, memRead16_eq]
  split <;> rfl

theorem popPc_eq (s : State) :
    popPc s = if s.sp = 0xFFFF#16 then .error (.outOfRange 0xFFFF#16)
      else .ok { s with sp := s.sp + 2#16, pc := wordAt s.mem s.sp } := by
  simp only [popPc, pop16_eq]
  split <;> rfl

/-- A word pushed is the word popped, and SP is restored (20_memory.md R67, its law). -/
theorem pop16_pushed (v : Word) (s : State) (h : s.sp ≠ 1#16) :
    pop16 (pushed v s) = .ok (v, { pushed v s with sp := s.sp }) := by
  have htop : (pushed v s).sp ≠ 0xFFFF#16 := fun h' => h ((sub_two_eq_top s.sp).1 h')
  have hsp : (pushed v s).sp + 2#16 = s.sp := by simp [pushed]
  rw [pop16_eq, if_neg htop, hsp]
  congr 2
  exact wordAt_write16 s.mem (s.sp - 2#16) v

theorem takeImm16_eq (s : State) :
    takeImm16 s = if s.pc = 0xFFFE#16 then .error (.outOfRange 0xFFFF#16) else .ok s := rfl

@[simp] theorem conclude_ok (s t : State) : conclude s (.ok t) = .next t := rfl

@[simp] theorem conclude_error (s : State) (f : FatalFault) : conclude s (.error f) = .next (raise f s) := rfl

/-- What an instruction's conclusion can be: the state it computed, or the fault it raised, precise in `s`. -/
theorem conclude_next {s t : State} {r : Except FatalFault State} (h : conclude s r = .next t) :
    r = .ok t ∨ ∃ f, r = .error f ∧ t = raise f s := by
  cases r with
  | ok u => exact .inl (by simpa using h)
  | error f => exact .inr ⟨f, rfl, by simpa using h.symm⟩

/-- An instruction's conclusion is always a next state. -/
theorem conclude_is_next (s : State) (r : Except FatalFault State) : ∃ t, conclude s r = .next t := by
  cases r <;> exact ⟨_, rfl⟩

/-- The state after a dispatch that does not raise (60_exceptions.md R340). -/
def dispatched (s : State) : State :=
  let u := { pushed s.pc s with last := s.last.other, pc := vector s.config s.last.other }
  match s.last.other with
  | .midPhase => u
  | .endPhase => endSideEffect u

/-- A dispatch raises exactly when its push does. -/
theorem dispatch_eq (s : State) :
    dispatch s = if s.sp = 1#16 then .error (.outOfRange 0xFFFF#16) else .ok (dispatched s) := by
  rw [dispatch, push16_eq]
  by_cases h : s.sp = 1#16
  · rw [if_pos h, if_pos h]; rfl
  · rw [if_neg h, if_neg h]; rfl

/-- The interrupt check, case by case (60_exceptions.md R338, R341). -/
theorem interruptCheck_eq (s : State) :
    interruptCheck s =
      if s.cyc > s.config.cycleBudget then
        if s.ie then
          if s.sp = 1#16 then .error (.outOfRange 0xFFFF#16)
          else .ok (dispatched { s with cyc := s.cyc - s.config.cycleBudget })
        else .ok { s with cyc := s.cyc - s.config.cycleBudget }
      else .ok s := by
  simp only [interruptCheck, dispatch_eq]

/-- What a check that raises nothing leaves: nothing done, the budget subtracted, or a dispatch as well. -/
theorem interruptCheck_ok {s t : State} (h : interruptCheck s = .ok t) :
    (s.cyc ≤ s.config.cycleBudget ∧ t = s) ∨
    (s.cyc > s.config.cycleBudget ∧ s.ie = false ∧ t = { s with cyc := s.cyc - s.config.cycleBudget }) ∨
    (s.cyc > s.config.cycleBudget ∧ s.ie = true ∧ s.sp ≠ 1#16 ∧
      t = dispatched { s with cyc := s.cyc - s.config.cycleBudget }) := by
  rw [interruptCheck_eq] at h
  split at h
  · next hc =>
    split at h
    · next hi =>
      split at h
      · cases h
      · next hs => exact .inr (.inr ⟨hc, hi, hs, (Except.ok.inj h).symm⟩)
    · next hi => exact .inr (.inl ⟨hc, by simpa using hi, (Except.ok.inj h).symm⟩)
  · next hc => exact .inl ⟨Nat.le_of_not_lt hc, (Except.ok.inj h).symm⟩

/-- When the check raises, and what. -/
theorem interruptCheck_error {s : State} {f : FatalFault} (h : interruptCheck s = .error f) :
    s.cyc > s.config.cycleBudget ∧ s.ie = true ∧ s.sp = 1#16 ∧ f = .outOfRange 0xFFFF#16 := by
  rw [interruptCheck_eq] at h
  split at h
  · next hc =>
    split at h
    · next hi =>
      split at h
      · next hs => exact ⟨hc, hi, hs, (Except.error.inj h).symm⟩
      · cases h
    · cases h
  · cases h

/-! ### Fields after a push and a dispatch -/

@[simp] theorem pushed_config (v : Word) (s : State) : (pushed v s).config = s.config := rfl
@[simp] theorem pushed_sp (v : Word) (s : State) : (pushed v s).sp = s.sp - 2#16 := rfl
@[simp] theorem pushed_f (v : Word) (s : State) : (pushed v s).f = s.f := rfl
@[simp] theorem pushed_pc (v : Word) (s : State) : (pushed v s).pc = s.pc := rfl
@[simp] theorem pushed_cyc (v : Word) (s : State) : (pushed v s).cyc = s.cyc := rfl
@[simp] theorem pushed_fault (v : Word) (s : State) : (pushed v s).fault = s.fault := rfl
@[simp] theorem pushed_icount (v : Word) (s : State) : (pushed v s).icount = s.icount := rfl
@[simp] theorem pushed_last (v : Word) (s : State) : (pushed v s).last = s.last := rfl

/-- Every byte of memory after a push. -/
theorem pushed_read (v x : Word) (s : State) :
    (pushed v s).mem.read x =
      if x = s.sp - 2#16 then lo8 v else if x = s.sp - 2#16 + 1#16 then hi8 v else s.mem.read x :=
  read_write16 s.mem (s.sp - 2#16) v x

theorem pushed_wf (v : Word) {s : State} (h : s.mem.wf = true) : (pushed v s).mem.wf = true :=
  Memory.wf_write (Memory.wf_write h _ _) _ _

/-- What a dispatch leaves alone (60_exceptions.md R340). -/
theorem dispatched_frame (s : State) :
    (dispatched s).a = s.a ∧ (dispatched s).b = s.b ∧ (dispatched s).c = s.c ∧ (dispatched s).d = s.d ∧
    (dispatched s).e = s.e ∧ (dispatched s).h = s.h ∧ (dispatched s).l = s.l ∧ (dispatched s).f = s.f ∧
    (dispatched s).cyc = s.cyc ∧ (dispatched s).icount = s.icount ∧ (dispatched s).fault = s.fault ∧
    (dispatched s).config = s.config ∧ (dispatched s).mem = (pushed s.pc s).mem ∧ (dispatched s).sp = s.sp - 2#16 ∧
    (dispatched s).shiftHi = s.shiftHi ∧ (dispatched s).shiftLo = s.shiftLo ∧
    (dispatched s).shiftAmt = s.shiftAmt ∧ (dispatched s).ack = s.ack := by
  unfold dispatched
  cases s.last <;> simp [Phase.other] <;> exact ⟨rfl, rfl, rfl, rfl, rfl, rfl, rfl, rfl, rfl, rfl, rfl⟩

theorem dispatched_wf {s : State} (h : s.mem.wf = true) : (dispatched s).mem.wf = true := by
  rw [(dispatched_frame s).2.2.2.2.2.2.2.2.2.2.2.2.1]
  exact pushed_wf _ h

end Sys2Proof.Machine
end

