-- ==== Sys2Proof/Laws/Meanings.lean ====
section
/-!
SUPPORT. The meanings that can raise a fault, in one form: when the instruction raises `OutOfRange(0xFFFF)` and what its
next state is otherwise (60_exceptions.md R331). The other shared operations are already written as one next state.
-/

namespace Sys2Proof.Machine

/-- The next state of an instruction that raises the out-of-range fault: only `FAULT` is written (R333). -/
abbrev outOfRange (s : State) : Out := .next (raise (.outOfRange 0xFFFF#16) s)

/-- LXI (40_data_transfer.md R126). -/
theorem loadPair_eq (op : Byte) (dst : Pair) (v : Word) (s : State) :
    loadPair op dst v s = if s.pc = 0xFFFE#16 then outOfRange s else .next (complete op 3#16 (writePair dst v s)) := by
  rw [loadPair, takeImm16_eq]
  split <;> rfl

/-- LDA (R127). -/
theorem execLda_eq (a : Word) (s : State) :
    execLda a s = if s.pc = 0xFFFE#16 then outOfRange s else .next (complete 0x3A#8 3#16 { s with a := s.mem.read a }) := by
  rw [execLda, takeImm16_eq]
  split <;> rfl

/-- STA (R128). -/
theorem execSta_eq (a : Word) (s : State) :
    execSta a s = if s.pc = 0xFFFE#16 then outOfRange s
      else .next (complete 0x32#8 3#16 { s with mem := s.mem.write a s.a }) := by
  rw [execSta, takeImm16_eq]
  split <;> rfl

/-- LHLD (R129). -/
theorem execLhld_eq (a : Word) (s : State) :
    execLhld a s = if s.pc = 0xFFFE#16 ∨ a = 0xFFFF#16 then outOfRange s
      else .next (complete 0x2A#8 3#16 { s with h := s.mem.read (a + 1#16), l := s.mem.read a }) := by
  rw [execLhld, takeImm16_eq]
  by_cases hp : s.pc = 0xFFFE#16
  · rw [if_pos hp, if_pos (.inl hp)]; rfl
  · by_cases ha : a = 0xFFFF#16
    · rw [if_neg hp, if_pos (.inr ha)]
      simp only [bind, Except.bind, memRead16_eq, if_pos ha, conclude_error]
    · rw [if_neg hp, if_neg (not_or.2 ⟨hp, ha⟩)]
      simp only [bind, Except.bind, memRead16_eq, if_neg ha, conclude_ok, wordAt, hi8_word, lo8_word]

/-- SHLD (R130). -/
theorem execShld_eq (a : Word) (s : State) :
    execShld a s = if s.pc = 0xFFFE#16 ∨ a = 0xFFFF#16 then outOfRange s
      else .next (complete 0x22#8 3#16 { s with mem := (s.mem.write (a + 1#16) s.h).write a s.l }) := by
  rw [execShld, takeImm16_eq]
  by_cases hp : s.pc = 0xFFFE#16
  · rw [if_pos hp, if_pos (.inl hp)]; rfl
  · by_cases ha : a = 0xFFFF#16
    · rw [if_neg hp, if_pos (.inr ha)]
      simp only [bind, Except.bind, memWrite16_eq, if_pos ha, conclude_error]
    · rw [if_neg hp, if_neg (not_or.2 ⟨hp, ha⟩)]
      simp only [bind, Except.bind, memWrite16_eq, if_neg ha, conclude_ok, State.hl, hi8_word, lo8_word]

/-- XTHL (R134). -/
theorem execXthl_eq (s : State) :
    execXthl s = if s.sp = 0xFFFF#16 then outOfRange s
      else .next (complete 0xE3#8 1#16 { s with
        mem := (s.mem.write (s.sp + 1#16) s.h).write s.sp s.l
        h := s.mem.read (s.sp + 1#16)
        l := s.mem.read s.sp }) := by
  rw [execXthl]
  by_cases hs : s.sp = 0xFFFF#16
  · simp only [bind, Except.bind, memRead16_eq, if_pos hs, conclude_error]
  · simp only [bind, Except.bind, memRead16_eq, memWrite16_eq, if_neg hs, conclude_ok, wordAt, State.hl, hi8_word,
      lo8_word]

/-- JMP (43_branch.md R221). -/
theorem jump_eq (op : Byte) (a : Word) (s : State) :
    jump op a s = if s.pc = 0xFFFE#16 then outOfRange s else .next (charge op true { s with pc := a }) := by
  rw [jump, takeImm16_eq]
  split <;> rfl

/-- The conditional jumps (R222 to R229). -/
theorem jumpIf_eq (op : Byte) (cc : Cond) (a : Word) (s : State) :
    jumpIf op cc a s = if s.pc = 0xFFFE#16 then outOfRange s
      else if condHolds cc s.f then .next (charge op true { s with pc := a })
      else .next (complete op 3#16 s) := by
  rw [jumpIf, takeImm16_eq]
  split
  · rfl
  · split <;> rename_i hc <;> simp [Except.map, hc]

theorem callTo_eq (len a : Word) (s : State) :
    callTo len a s = if s.sp = 1#16 then .error (.outOfRange 0xFFFF#16)
      else .ok { pushed (s.pc + len) s with pc := a } := by
  rw [callTo, push16_eq]
  split <;> rfl

/-- CALL (44_call_return.md R241). -/
theorem call_eq (op : Byte) (a : Word) (s : State) :
    call op a s = if s.pc = 0xFFFE#16 ∨ s.sp = 1#16 then outOfRange s
      else .next (charge op true { pushed (s.pc + 3#16) s with pc := a }) := by
  rw [call, takeImm16_eq]
  by_cases hp : s.pc = 0xFFFE#16
  · rw [if_pos hp, if_pos (.inl hp)]; rfl
  · by_cases ha : s.sp = 1#16
    · rw [if_neg hp, if_pos (.inr ha)]
      simp only [bind, Except.bind, callTo_eq, if_pos ha, conclude_error]
    · rw [if_neg hp, if_neg (not_or.2 ⟨hp, ha⟩)]
      simp only [bind, Except.bind, callTo_eq, if_neg ha, conclude_ok]

/-- The conditional calls (R242 to R249). -/
theorem callIf_eq (op : Byte) (cc : Cond) (a : Word) (s : State) :
    callIf op cc a s = if s.pc = 0xFFFE#16 then outOfRange s
      else if condHolds cc s.f then
        if s.sp = 1#16 then outOfRange s else .next (charge op true { pushed (s.pc + 3#16) s with pc := a })
      else .next (complete op 3#16 s) := by
  rw [callIf, takeImm16_eq]
  split
  · rfl
  · split <;> rename_i hc
    · simp only [bind, Except.bind, hc, if_true, callTo_eq]
      by_cases hs : s.sp = 1#16
      · simp only [if_pos hs, conclude_error]
      · simp only [if_neg hs, conclude_ok]
    · simp [bind, Except.bind, hc]

/-- RET (R250). -/
theorem ret_eq (op : Byte) (s : State) :
    ret op s = if s.sp = 0xFFFF#16 then outOfRange s
      else .next (charge op true { s with sp := s.sp + 2#16, pc := wordAt s.mem s.sp }) := by
  rw [ret, popPc_eq]
  split <;> rfl

/-- The conditional returns (R251 to R258). -/
theorem retIf_eq (op : Byte) (cc : Cond) (s : State) :
    retIf op cc s = if condHolds cc s.f then
        if s.sp = 0xFFFF#16 then outOfRange s
        else .next (charge op true { s with sp := s.sp + 2#16, pc := wordAt s.mem s.sp })
      else .next (complete op 1#16 s) := by
  rw [retIf, popPc_eq]
  split
  · split <;> rfl
  · rfl

/-- RST (R262). -/
theorem restart_eq (op : Byte) (a : Word) (s : State) :
    restart op a s = if s.sp = 1#16 then outOfRange s
      else .next (charge op true { pushed (s.pc + 1#16) s with pc := a }) := by
  rw [restart, callTo_eq]
  split <;> rfl

/-- PUSH (45_stack.md R271 to R274). -/
theorem pushPair_eq (op : Byte) (i : StackPair) (s : State) :
    pushPair op i s = if s.sp = 1#16 then outOfRange s else .next (complete op 1#16 (pushed (readStackPair i s) s)) := by
  rw [pushPair, push16_eq]
  split <;> rfl

/-- POP (R276 to R279). -/
theorem popPair_eq (op : Byte) (i : StackPair) (s : State) :
    popPair op i s = if s.sp = 0xFFFF#16 then outOfRange s
      else .next (complete op 1#16 (writeStackPair i (wordAt s.mem s.sp) { s with sp := s.sp + 2#16 })) := by
  rw [popPair, pop16_eq]
  split <;> rfl

end Sys2Proof.Machine
end

