-- ==== Sys2Proof/Laws/PerInstr.lean ====
section
/-!
SUPPORT. Statements about every instruction, one lemma per constructor. `RoundTrip`: decoding an encoded instruction,
whatever bytes follow it, gives the instruction and those bytes (30_encoding.md R90, R94, R100, R101).
-/

namespace Sys2Proof

namespace Laws.RoundTrip

/-- Decoding `encode i` followed by any bytes gives `i` and those bytes. -/
def Statement (i : Instr) : Prop := ∀ rest : List Byte, decode (encode i ++ rest) = .ok (i, rest)

theorem nop : Statement .nop := fun _ => rfl
theorem lxiB (v : Word) : Statement (.lxiB v) := fun rest => by
  have h : decode (encode (.lxiB v) ++ rest) = .ok (.lxiB (word (hi8 v) (lo8 v)), rest) := rfl
  rwa [word_hi8_lo8] at h
theorem staxB : Statement .staxB := fun _ => rfl
theorem inxB : Statement .inxB := fun _ => rfl
theorem inrB : Statement .inrB := fun _ => rfl
theorem dcrB : Statement .dcrB := fun _ => rfl
theorem mviB (d : Byte) : Statement (.mviB d) := fun _ => rfl
theorem rlc : Statement .rlc := fun _ => rfl
theorem nop08 : Statement .nop08 := fun _ => rfl
theorem dadB : Statement .dadB := fun _ => rfl
theorem ldaxB : Statement .ldaxB := fun _ => rfl
theorem dcxB : Statement .dcxB := fun _ => rfl
theorem inrC : Statement .inrC := fun _ => rfl
theorem dcrC : Statement .dcrC := fun _ => rfl
theorem mviC (d : Byte) : Statement (.mviC d) := fun _ => rfl
theorem rrc : Statement .rrc := fun _ => rfl
theorem nop10 : Statement .nop10 := fun _ => rfl
theorem lxiD (v : Word) : Statement (.lxiD v) := fun rest => by
  have h : decode (encode (.lxiD v) ++ rest) = .ok (.lxiD (word (hi8 v) (lo8 v)), rest) := rfl
  rwa [word_hi8_lo8] at h
theorem staxD : Statement .staxD := fun _ => rfl
theorem inxD : Statement .inxD := fun _ => rfl
theorem inrD : Statement .inrD := fun _ => rfl
theorem dcrD : Statement .dcrD := fun _ => rfl
theorem mviD (d : Byte) : Statement (.mviD d) := fun _ => rfl
theorem ral : Statement .ral := fun _ => rfl
theorem nop18 : Statement .nop18 := fun _ => rfl
theorem dadD : Statement .dadD := fun _ => rfl
theorem ldaxD : Statement .ldaxD := fun _ => rfl
theorem dcxD : Statement .dcxD := fun _ => rfl
theorem inrE : Statement .inrE := fun _ => rfl
theorem dcrE : Statement .dcrE := fun _ => rfl
theorem mviE (d : Byte) : Statement (.mviE d) := fun _ => rfl
theorem rar : Statement .rar := fun _ => rfl
theorem nop20 : Statement .nop20 := fun _ => rfl
theorem lxiH (v : Word) : Statement (.lxiH v) := fun rest => by
  have h : decode (encode (.lxiH v) ++ rest) = .ok (.lxiH (word (hi8 v) (lo8 v)), rest) := rfl
  rwa [word_hi8_lo8] at h
theorem shld (v : Word) : Statement (.shld v) := fun rest => by
  have h : decode (encode (.shld v) ++ rest) = .ok (.shld (word (hi8 v) (lo8 v)), rest) := rfl
  rwa [word_hi8_lo8] at h
theorem inxH : Statement .inxH := fun _ => rfl
theorem inrH : Statement .inrH := fun _ => rfl
theorem dcrH : Statement .dcrH := fun _ => rfl
theorem mviH (d : Byte) : Statement (.mviH d) := fun _ => rfl
theorem daa : Statement .daa := fun _ => rfl
theorem nop28 : Statement .nop28 := fun _ => rfl
theorem dadH : Statement .dadH := fun _ => rfl
theorem lhld (v : Word) : Statement (.lhld v) := fun rest => by
  have h : decode (encode (.lhld v) ++ rest) = .ok (.lhld (word (hi8 v) (lo8 v)), rest) := rfl
  rwa [word_hi8_lo8] at h
theorem dcxH : Statement .dcxH := fun _ => rfl
theorem inrL : Statement .inrL := fun _ => rfl
theorem dcrL : Statement .dcrL := fun _ => rfl
theorem mviL (d : Byte) : Statement (.mviL d) := fun _ => rfl
theorem cma : Statement .cma := fun _ => rfl
theorem nop30 : Statement .nop30 := fun _ => rfl
theorem lxiSP (v : Word) : Statement (.lxiSP v) := fun rest => by
  have h : decode (encode (.lxiSP v) ++ rest) = .ok (.lxiSP (word (hi8 v) (lo8 v)), rest) := rfl
  rwa [word_hi8_lo8] at h
theorem sta (v : Word) : Statement (.sta v) := fun rest => by
  have h : decode (encode (.sta v) ++ rest) = .ok (.sta (word (hi8 v) (lo8 v)), rest) := rfl
  rwa [word_hi8_lo8] at h
theorem inxSP : Statement .inxSP := fun _ => rfl
theorem inrM : Statement .inrM := fun _ => rfl
theorem dcrM : Statement .dcrM := fun _ => rfl
theorem mviM (d : Byte) : Statement (.mviM d) := fun _ => rfl
theorem stc : Statement .stc := fun _ => rfl
theorem nop38 : Statement .nop38 := fun _ => rfl
theorem dadSP : Statement .dadSP := fun _ => rfl
theorem lda (v : Word) : Statement (.lda v) := fun rest => by
  have h : decode (encode (.lda v) ++ rest) = .ok (.lda (word (hi8 v) (lo8 v)), rest) := rfl
  rwa [word_hi8_lo8] at h
theorem dcxSP : Statement .dcxSP := fun _ => rfl
theorem inrA : Statement .inrA := fun _ => rfl
theorem dcrA : Statement .dcrA := fun _ => rfl
theorem mviA (d : Byte) : Statement (.mviA d) := fun _ => rfl
theorem cmc : Statement .cmc := fun _ => rfl
theorem movBB : Statement .movBB := fun _ => rfl
theorem movBC : Statement .movBC := fun _ => rfl
theorem movBD : Statement .movBD := fun _ => rfl
theorem movBE : Statement .movBE := fun _ => rfl
theorem movBH : Statement .movBH := fun _ => rfl
theorem movBL : Statement .movBL := fun _ => rfl
theorem movBM : Statement .movBM := fun _ => rfl
theorem movBA : Statement .movBA := fun _ => rfl
theorem movCB : Statement .movCB := fun _ => rfl
theorem movCC : Statement .movCC := fun _ => rfl
theorem movCD : Statement .movCD := fun _ => rfl
theorem movCE : Statement .movCE := fun _ => rfl
theorem movCH : Statement .movCH := fun _ => rfl
theorem movCL : Statement .movCL := fun _ => rfl
theorem movCM : Statement .movCM := fun _ => rfl
theorem movCA : Statement .movCA := fun _ => rfl
theorem movDB : Statement .movDB := fun _ => rfl
theorem movDC : Statement .movDC := fun _ => rfl
theorem movDD : Statement .movDD := fun _ => rfl
theorem movDE : Statement .movDE := fun _ => rfl
theorem movDH : Statement .movDH := fun _ => rfl
theorem movDL : Statement .movDL := fun _ => rfl
theorem movDM : Statement .movDM := fun _ => rfl
theorem movDA : Statement .movDA := fun _ => rfl
theorem movEB : Statement .movEB := fun _ => rfl
theorem movEC : Statement .movEC := fun _ => rfl
theorem movED : Statement .movED := fun _ => rfl
theorem movEE : Statement .movEE := fun _ => rfl
theorem movEH : Statement .movEH := fun _ => rfl
theorem movEL : Statement .movEL := fun _ => rfl
theorem movEM : Statement .movEM := fun _ => rfl
theorem movEA : Statement .movEA := fun _ => rfl
theorem movHB : Statement .movHB := fun _ => rfl
theorem movHC : Statement .movHC := fun _ => rfl
theorem movHD : Statement .movHD := fun _ => rfl
theorem movHE : Statement .movHE := fun _ => rfl
theorem movHH : Statement .movHH := fun _ => rfl
theorem movHL : Statement .movHL := fun _ => rfl
theorem movHM : Statement .movHM := fun _ => rfl
theorem movHA : Statement .movHA := fun _ => rfl
theorem movLB : Statement .movLB := fun _ => rfl
theorem movLC : Statement .movLC := fun _ => rfl
theorem movLD : Statement .movLD := fun _ => rfl
theorem movLE : Statement .movLE := fun _ => rfl
theorem movLH : Statement .movLH := fun _ => rfl
theorem movLL : Statement .movLL := fun _ => rfl
theorem movLM : Statement .movLM := fun _ => rfl
theorem movLA : Statement .movLA := fun _ => rfl
theorem movMB : Statement .movMB := fun _ => rfl
theorem movMC : Statement .movMC := fun _ => rfl
theorem movMD : Statement .movMD := fun _ => rfl
theorem movME : Statement .movME := fun _ => rfl
theorem movMH : Statement .movMH := fun _ => rfl
theorem movML : Statement .movML := fun _ => rfl
theorem unassigned76 : Statement .unassigned76 := fun _ => rfl
theorem movMA : Statement .movMA := fun _ => rfl
theorem movAB : Statement .movAB := fun _ => rfl
theorem movAC : Statement .movAC := fun _ => rfl
theorem movAD : Statement .movAD := fun _ => rfl
theorem movAE : Statement .movAE := fun _ => rfl
theorem movAH : Statement .movAH := fun _ => rfl
theorem movAL : Statement .movAL := fun _ => rfl
theorem movAM : Statement .movAM := fun _ => rfl
theorem movAA : Statement .movAA := fun _ => rfl
theorem addB : Statement .addB := fun _ => rfl
theorem addC : Statement .addC := fun _ => rfl
theorem addD : Statement .addD := fun _ => rfl
theorem addE : Statement .addE := fun _ => rfl
theorem addH : Statement .addH := fun _ => rfl
theorem addL : Statement .addL := fun _ => rfl
theorem addM : Statement .addM := fun _ => rfl
theorem addA : Statement .addA := fun _ => rfl
theorem adcB : Statement .adcB := fun _ => rfl
theorem adcC : Statement .adcC := fun _ => rfl
theorem adcD : Statement .adcD := fun _ => rfl
theorem adcE : Statement .adcE := fun _ => rfl
theorem adcH : Statement .adcH := fun _ => rfl
theorem adcL : Statement .adcL := fun _ => rfl
theorem adcM : Statement .adcM := fun _ => rfl
theorem adcA : Statement .adcA := fun _ => rfl
theorem subB : Statement .subB := fun _ => rfl
theorem subC : Statement .subC := fun _ => rfl
theorem subD : Statement .subD := fun _ => rfl
theorem subE : Statement .subE := fun _ => rfl
theorem subH : Statement .subH := fun _ => rfl
theorem subL : Statement .subL := fun _ => rfl
theorem subM : Statement .subM := fun _ => rfl
theorem subA : Statement .subA := fun _ => rfl
theorem sbbB : Statement .sbbB := fun _ => rfl
theorem sbbC : Statement .sbbC := fun _ => rfl
theorem sbbD : Statement .sbbD := fun _ => rfl
theorem sbbE : Statement .sbbE := fun _ => rfl
theorem sbbH : Statement .sbbH := fun _ => rfl
theorem sbbL : Statement .sbbL := fun _ => rfl
theorem sbbM : Statement .sbbM := fun _ => rfl
theorem sbbA : Statement .sbbA := fun _ => rfl
theorem anaB : Statement .anaB := fun _ => rfl
theorem anaC : Statement .anaC := fun _ => rfl
theorem anaD : Statement .anaD := fun _ => rfl
theorem anaE : Statement .anaE := fun _ => rfl
theorem anaH : Statement .anaH := fun _ => rfl
theorem anaL : Statement .anaL := fun _ => rfl
theorem anaM : Statement .anaM := fun _ => rfl
theorem anaA : Statement .anaA := fun _ => rfl
theorem xraB : Statement .xraB := fun _ => rfl
theorem xraC : Statement .xraC := fun _ => rfl
theorem xraD : Statement .xraD := fun _ => rfl
theorem xraE : Statement .xraE := fun _ => rfl
theorem xraH : Statement .xraH := fun _ => rfl
theorem xraL : Statement .xraL := fun _ => rfl
theorem xraM : Statement .xraM := fun _ => rfl
theorem xraA : Statement .xraA := fun _ => rfl
theorem oraB : Statement .oraB := fun _ => rfl
theorem oraC : Statement .oraC := fun _ => rfl
theorem oraD : Statement .oraD := fun _ => rfl
theorem oraE : Statement .oraE := fun _ => rfl
theorem oraH : Statement .oraH := fun _ => rfl
theorem oraL : Statement .oraL := fun _ => rfl
theorem oraM : Statement .oraM := fun _ => rfl
theorem oraA : Statement .oraA := fun _ => rfl
theorem cmpB : Statement .cmpB := fun _ => rfl
theorem cmpC : Statement .cmpC := fun _ => rfl
theorem cmpD : Statement .cmpD := fun _ => rfl
theorem cmpE : Statement .cmpE := fun _ => rfl
theorem cmpH : Statement .cmpH := fun _ => rfl
theorem cmpL : Statement .cmpL := fun _ => rfl
theorem cmpM : Statement .cmpM := fun _ => rfl
theorem cmpA : Statement .cmpA := fun _ => rfl
theorem rnz : Statement .rnz := fun _ => rfl
theorem popB : Statement .popB := fun _ => rfl
theorem jnz (v : Word) : Statement (.jnz v) := fun rest => by
  have h : decode (encode (.jnz v) ++ rest) = .ok (.jnz (word (hi8 v) (lo8 v)), rest) := rfl
  rwa [word_hi8_lo8] at h
theorem jmp (v : Word) : Statement (.jmp v) := fun rest => by
  have h : decode (encode (.jmp v) ++ rest) = .ok (.jmp (word (hi8 v) (lo8 v)), rest) := rfl
  rwa [word_hi8_lo8] at h
theorem cnz (v : Word) : Statement (.cnz v) := fun rest => by
  have h : decode (encode (.cnz v) ++ rest) = .ok (.cnz (word (hi8 v) (lo8 v)), rest) := rfl
  rwa [word_hi8_lo8] at h
theorem pushB : Statement .pushB := fun _ => rfl
theorem adi (d : Byte) : Statement (.adi d) := fun _ => rfl
theorem rst0 : Statement .rst0 := fun _ => rfl
theorem rz : Statement .rz := fun _ => rfl
theorem ret : Statement .ret := fun _ => rfl
theorem jz (v : Word) : Statement (.jz v) := fun rest => by
  have h : decode (encode (.jz v) ++ rest) = .ok (.jz (word (hi8 v) (lo8 v)), rest) := rfl
  rwa [word_hi8_lo8] at h
theorem jmpCB (v : Word) : Statement (.jmpCB v) := fun rest => by
  have h : decode (encode (.jmpCB v) ++ rest) = .ok (.jmpCB (word (hi8 v) (lo8 v)), rest) := rfl
  rwa [word_hi8_lo8] at h
theorem cz (v : Word) : Statement (.cz v) := fun rest => by
  have h : decode (encode (.cz v) ++ rest) = .ok (.cz (word (hi8 v) (lo8 v)), rest) := rfl
  rwa [word_hi8_lo8] at h
theorem call (v : Word) : Statement (.call v) := fun rest => by
  have h : decode (encode (.call v) ++ rest) = .ok (.call (word (hi8 v) (lo8 v)), rest) := rfl
  rwa [word_hi8_lo8] at h
theorem aci (d : Byte) : Statement (.aci d) := fun _ => rfl
theorem rst1 : Statement .rst1 := fun _ => rfl
theorem rnc : Statement .rnc := fun _ => rfl
theorem popD : Statement .popD := fun _ => rfl
theorem jnc (v : Word) : Statement (.jnc v) := fun rest => by
  have h : decode (encode (.jnc v) ++ rest) = .ok (.jnc (word (hi8 v) (lo8 v)), rest) := rfl
  rwa [word_hi8_lo8] at h
theorem outp (d : Byte) : Statement (.outp d) := fun _ => rfl
theorem cnc (v : Word) : Statement (.cnc v) := fun rest => by
  have h : decode (encode (.cnc v) ++ rest) = .ok (.cnc (word (hi8 v) (lo8 v)), rest) := rfl
  rwa [word_hi8_lo8] at h
theorem pushD : Statement .pushD := fun _ => rfl
theorem sui (d : Byte) : Statement (.sui d) := fun _ => rfl
theorem rst2 : Statement .rst2 := fun _ => rfl
theorem rc : Statement .rc := fun _ => rfl
theorem retD9 : Statement .retD9 := fun _ => rfl
theorem jc (v : Word) : Statement (.jc v) := fun rest => by
  have h : decode (encode (.jc v) ++ rest) = .ok (.jc (word (hi8 v) (lo8 v)), rest) := rfl
  rwa [word_hi8_lo8] at h
theorem inp (d : Byte) : Statement (.inp d) := fun _ => rfl
theorem cc (v : Word) : Statement (.cc v) := fun rest => by
  have h : decode (encode (.cc v) ++ rest) = .ok (.cc (word (hi8 v) (lo8 v)), rest) := rfl
  rwa [word_hi8_lo8] at h
theorem callDD (v : Word) : Statement (.callDD v) := fun rest => by
  have h : decode (encode (.callDD v) ++ rest) = .ok (.callDD (word (hi8 v) (lo8 v)), rest) := rfl
  rwa [word_hi8_lo8] at h
theorem sbi (d : Byte) : Statement (.sbi d) := fun _ => rfl
theorem rst3 : Statement .rst3 := fun _ => rfl
theorem rpo : Statement .rpo := fun _ => rfl
theorem popH : Statement .popH := fun _ => rfl
theorem jpo (v : Word) : Statement (.jpo v) := fun rest => by
  have h : decode (encode (.jpo v) ++ rest) = .ok (.jpo (word (hi8 v) (lo8 v)), rest) := rfl
  rwa [word_hi8_lo8] at h
theorem xthl : Statement .xthl := fun _ => rfl
theorem cpo (v : Word) : Statement (.cpo v) := fun rest => by
  have h : decode (encode (.cpo v) ++ rest) = .ok (.cpo (word (hi8 v) (lo8 v)), rest) := rfl
  rwa [word_hi8_lo8] at h
theorem pushH : Statement .pushH := fun _ => rfl
theorem ani (d : Byte) : Statement (.ani d) := fun _ => rfl
theorem rst4 : Statement .rst4 := fun _ => rfl
theorem rpe : Statement .rpe := fun _ => rfl
theorem pchl : Statement .pchl := fun _ => rfl
theorem jpe (v : Word) : Statement (.jpe v) := fun rest => by
  have h : decode (encode (.jpe v) ++ rest) = .ok (.jpe (word (hi8 v) (lo8 v)), rest) := rfl
  rwa [word_hi8_lo8] at h
theorem xchg : Statement .xchg := fun _ => rfl
theorem cpe (v : Word) : Statement (.cpe v) := fun rest => by
  have h : decode (encode (.cpe v) ++ rest) = .ok (.cpe (word (hi8 v) (lo8 v)), rest) := rfl
  rwa [word_hi8_lo8] at h
theorem callED (v : Word) : Statement (.callED v) := fun rest => by
  have h : decode (encode (.callED v) ++ rest) = .ok (.callED (word (hi8 v) (lo8 v)), rest) := rfl
  rwa [word_hi8_lo8] at h
theorem xri (d : Byte) : Statement (.xri d) := fun _ => rfl
theorem rst5 : Statement .rst5 := fun _ => rfl
theorem rp : Statement .rp := fun _ => rfl
theorem popPSW : Statement .popPSW := fun _ => rfl
theorem jp (v : Word) : Statement (.jp v) := fun rest => by
  have h : decode (encode (.jp v) ++ rest) = .ok (.jp (word (hi8 v) (lo8 v)), rest) := rfl
  rwa [word_hi8_lo8] at h
theorem di : Statement .di := fun _ => rfl
theorem cp (v : Word) : Statement (.cp v) := fun rest => by
  have h : decode (encode (.cp v) ++ rest) = .ok (.cp (word (hi8 v) (lo8 v)), rest) := rfl
  rwa [word_hi8_lo8] at h
theorem pushPSW : Statement .pushPSW := fun _ => rfl
theorem ori (d : Byte) : Statement (.ori d) := fun _ => rfl
theorem rst6 : Statement .rst6 := fun _ => rfl
theorem rm : Statement .rm := fun _ => rfl
theorem sphl : Statement .sphl := fun _ => rfl
theorem jm (v : Word) : Statement (.jm v) := fun rest => by
  have h : decode (encode (.jm v) ++ rest) = .ok (.jm (word (hi8 v) (lo8 v)), rest) := rfl
  rwa [word_hi8_lo8] at h
theorem ei : Statement .ei := fun _ => rfl
theorem cm (v : Word) : Statement (.cm v) := fun rest => by
  have h : decode (encode (.cm v) ++ rest) = .ok (.cm (word (hi8 v) (lo8 v)), rest) := rfl
  rwa [word_hi8_lo8] at h
theorem callFD (v : Word) : Statement (.callFD v) := fun rest => by
  have h : decode (encode (.callFD v) ++ rest) = .ok (.callFD (word (hi8 v) (lo8 v)), rest) := rfl
  rwa [word_hi8_lo8] at h
theorem cpi (d : Byte) : Statement (.cpi d) := fun _ => rfl
theorem rst7 : Statement .rst7 := fun _ => rfl

end Laws.RoundTrip

end Sys2Proof
end

