-- ==== Sys2Proof/Laws/Step.lean ====
section
/-!
SUPPORT. What a step can do, said once; and the induction over reachable states, packaged once.
-/

namespace Sys2Proof.Machine

/-- What fetching answers (30_encoding.md R101). -/
theorem fetch_eq (s : State) :
    fetch s = if s.mem.read s.pc ∈ s.config.unassignedOpcodes then .error (.decodeFault s.pc (s.mem.read s.pc))
      else .ok (decodeBytes (s.mem.read s.pc) (s.mem.read (s.pc + 1#16)) (s.mem.read (s.pc + 2#16))) := by
  simp only [fetch, List.contains_iff_mem]

/-- A step that answers a next state is one of three: the check raised, the fetch raised after the check, or an
instruction was executed after the check (60_exceptions.md R337, R333). -/
theorem step_next {s u : State} (h : step s = .next u) :
    s.fault = none ∧ s.config.wf = true ∧
    ((∃ f, interruptCheck s = .error f ∧ u = raise f s) ∨
     ∃ t, interruptCheck s = .ok t ∧
      ((∃ f, fetch t = .error f ∧ u = raise f t) ∨ ∃ i, fetch t = .ok i ∧ exec i t = .next u)) := by
  unfold step at h
  split at h
  · cases h
  · next hf =>
    split at h
    · next hw =>
      refine ⟨hf, hw, ?_⟩
      split at h
      · next f hc => exact .inl ⟨f, hc, by cases h; rfl⟩
      · next t hc =>
        refine .inr ⟨t, hc, ?_⟩
        unfold runInstruction at h
        split at h
        · next f hi => exact .inl ⟨f, hi, by cases h; rfl⟩
        · next i hi => exact .inr ⟨i, hi, h⟩
    · cases h

/-- What holds in a state and is kept by every step holds in every state reached from it. -/
theorem reaches_induction {P : State → Prop} {s t : State} (hs : P s)
    (hstep : ∀ u v, P u → step u = .next v → P v) (h : Reaches s t) : P t := by
  induction h with
  | refl => exact hs
  | step _ hv ih => exact hstep _ _ ih hv

end Sys2Proof.Machine
end

