-- ==== Sys2Proof/Tests/Slice0.lean ====
section
/-!
SUPPORT. Tests: the checks of WellFormed.lean refuse ill-formed terms; words written out from the opcode map decode as
they should; single steps give what the vectors of 95_test_vectors.md (their numbers T<n> stand in the comments) or a
calculation by hand from the rules say; and a witness for the hypotheses of every statement that has some.
-/

namespace Sys2Proof.Tests

open Machine

/-! ### Well-formed parameters and instructions -/

theorem test_defaults_well_formed : defaultConfig.wf = true := by decide
theorem test_budget_17_refused : Config.wf { defaultConfig with cycleBudget := 17 } = false := by decide
theorem test_budget_18_accepted : Config.wf { defaultConfig with cycleBudget := 18 } = true := by decide
theorem test_switch_ports_equal_refused : Config.wf { defaultConfig with portSw1 := 2#8 } = false := by decide
theorem test_switch1_on_shift_port_refused : Config.wf { defaultConfig with portSw1 := 3#8 } = false := by decide
theorem test_switch2_on_shift_port_refused : Config.wf { defaultConfig with portSw2 := 3#8 } = false := by decide
theorem test_shift_ports_equal_refused : Config.wf { defaultConfig with portShiftAmt := 4#8 } = false := by decide
theorem test_amount_on_ack_port_refused : Config.wf { defaultConfig with portShiftAmt := 6#8 } = false := by decide
theorem test_data_on_ack_port_refused : Config.wf { defaultConfig with portShiftData := 6#8 } = false := by decide
theorem test_video_past_top_refused : Config.wf { defaultConfig with vramSize := 0xDC01 } = false := by decide
theorem test_video_to_top_accepted : Config.wf { defaultConfig with vramSize := 0xDC00 } = true := by decide
theorem test_unassigned_opcode_refused : Instr.unassigned76.wf defaultConfig = false := by decide
theorem test_rst_unassigned_refused :
    (Instr.rst7).wf { defaultConfig with unassignedOpcodes := [0x76#8, 0xFF#8] } = false := by decide
theorem test_rst_assigned_accepted : (Instr.rst7).wf defaultConfig = true := by decide

/-! ### The decoder's other outcomes -/

theorem test_decode_leaves_the_rest : decode [0b00111110#8, 0x7F#8, 0xC9#8] = .ok (.mviA 0x7F#8, [0xC9#8]) := rfl
theorem test_decode_truncated : decode [0b11000011#8, 0x34#8] = .error (.truncated 0xC3#8) := rfl
theorem test_decode_no_bytes : decode [] = .error .noBytes := rfl
theorem test_table_word : decodeTableWord 24 0x1234C3 = some (.jmp 0x1234#16) := by decide
theorem test_table_word_zero_operands : decodeTableWord 8 0x21 = some (.lxiH 0#16) := by decide

/-! ### Every word of the opcode map, from the bit patterns of the second table of R100 -/

/-- `bytes` are one whole instruction, `i`. -/
def reads (bytes : List Byte) (i : Instr) : Bool := (decode bytes).toOption == some (i, [])

/-- Every form of a list is read from the byte of `pattern` plus its field, then `operands`. -/
def readsAll {α : Type} (pattern : Nat) (field : α → Nat) (operands : List Byte) (forms : List (Instr × α)) : Bool :=
  forms.all fun p => reads (BitVec.ofNat 8 (pattern + field p.2) :: operands) p.1

open Claims in
theorem test_decode_pattern_mov :
    readsAll 0b01000000 (fun p => 8 * selNum p.1 + selNum p.2) [] movRegReg = true ∧
    readsAll 0b01000110 (fun r => 8 * selNum r) [] movRegMem = true ∧
    readsAll 0b01110000 selNum [] movMemReg = true := by decide

open Claims in
theorem test_decode_pattern_immediate :
    readsAll 0b00000110 (fun r => 8 * selNum r) [0xA5#8] (mviReg 0xA5#8) = true ∧
    reads [0b00110110#8, 0xA5#8] (.mviM 0xA5#8) = true ∧
    readsAll 0b00000001 (fun p => 16 * pairNum p) [0x34#8, 0x12#8] (lxiForms 0x1234#16) = true := by decide

theorem test_decode_pattern_load_store :
    reads [0b00001010#8] .ldaxB = true ∧ reads [0b00011010#8] .ldaxD = true ∧
    reads [0b00000010#8] .staxB = true ∧ reads [0b00010010#8] .staxD = true ∧
    reads [0b00100010#8, 0x34#8, 0x12#8] (.shld 0x1234#16) = true ∧
    reads [0b00101010#8, 0x34#8, 0x12#8] (.lhld 0x1234#16) = true ∧
    reads [0b00110010#8, 0x34#8, 0x12#8] (.sta 0x1234#16) = true ∧
    reads [0b00111010#8, 0x34#8, 0x12#8] (.lda 0x1234#16) = true ∧
    reads [0b11101011#8] .xchg = true ∧ reads [0b11100011#8] .xthl = true ∧ reads [0b11111001#8] .sphl = true := by
  decide

open Claims in
theorem test_decode_pattern_alu :
    readsAll 0b10000000 selNum [] addForms = true ∧ readsAll 0b10001000 selNum [] adcForms = true ∧
    readsAll 0b10010000 selNum [] subForms = true ∧ readsAll 0b10011000 selNum [] sbbForms = true ∧
    readsAll 0b10100000 selNum [] anaForms = true ∧ readsAll 0b10101000 selNum [] xraForms = true ∧
    readsAll 0b10110000 selNum [] oraForms = true ∧ readsAll 0b10111000 selNum [] cmpForms = true := by decide

theorem test_decode_pattern_alu_immediate :
    reads [0b11000110#8, 0x80#8] (.adi 0x80#8) = true ∧ reads [0b11001110#8, 0x80#8] (.aci 0x80#8) = true ∧
    reads [0b11010110#8, 0x80#8] (.sui 0x80#8) = true ∧ reads [0b11011110#8, 0x80#8] (.sbi 0x80#8) = true ∧
    reads [0b11100110#8, 0x80#8] (.ani 0x80#8) = true ∧ reads [0b11101110#8, 0x80#8] (.xri 0x80#8) = true ∧
    reads [0b11110110#8, 0x80#8] (.ori 0x80#8) = true ∧ reads [0b11111110#8, 0x80#8] (.cpi 0x80#8) = true := by decide

open Claims in
theorem test_decode_pattern_increment :
    readsAll 0b00000100 (fun r => 8 * selNum r) [] inrForms = true ∧
    readsAll 0b00000101 (fun r => 8 * selNum r) [] dcrForms = true ∧
    readsAll 0b00000011 (fun p => 16 * pairNum p) [] inxForms = true ∧
    readsAll 0b00001011 (fun p => 16 * pairNum p) [] dcxForms = true ∧
    readsAll 0b00001001 (fun p => 16 * pairNum p) [] dadForms = true := by decide

theorem test_decode_pattern_accumulator :
    reads [0b00000111#8] .rlc = true ∧ reads [0b00001111#8] .rrc = true ∧ reads [0b00010111#8] .ral = true ∧
    reads [0b00011111#8] .rar = true ∧ reads [0b00100111#8] .daa = true ∧ reads [0b00101111#8] .cma = true ∧
    reads [0b00110111#8] .stc = true ∧ reads [0b00111111#8] .cmc = true := by decide

open Claims in
theorem test_decode_pattern_branch :
    readsAll 0b11000010 (fun k => 8 * condNum k) [0x34#8, 0x12#8] (jumpForms 0x1234#16) = true ∧
    readsAll 0b11000100 (fun k => 8 * condNum k) [0x34#8, 0x12#8] (callForms 0x1234#16) = true ∧
    readsAll 0b11000000 (fun k => 8 * condNum k) [] returnForms = true ∧
    readsAll 0b11000111 (fun n => 8 * n) [] rstForms = true ∧
    reads [0b11000011#8, 0x34#8, 0x12#8] (.jmp 0x1234#16) = true ∧
    reads [0b11001011#8, 0x34#8, 0x12#8] (.jmpCB 0x1234#16) = true ∧
    reads [0b11001101#8, 0x34#8, 0x12#8] (.call 0x1234#16) = true ∧
    reads [0b11011101#8, 0x34#8, 0x12#8] (.callDD 0x1234#16) = true ∧
    reads [0b11101101#8, 0x34#8, 0x12#8] (.callED 0x1234#16) = true ∧
    reads [0b11111101#8, 0x34#8, 0x12#8] (.callFD 0x1234#16) = true ∧
    reads [0b11001001#8] .ret = true ∧ reads [0b11011001#8] .retD9 = true ∧ reads [0b11101001#8] .pchl = true := by
  decide

open Claims in
theorem test_decode_pattern_stack_io_control :
    readsAll 0b11000101 (fun p => 16 * stackPairNum p) [] pushForms = true ∧
    readsAll 0b11000001 (fun p => 16 * stackPairNum p) [] popForms = true ∧
    readsAll 0 BitVec.toNat [] nopForms = true ∧
    reads [0b11011011#8, 0x03#8] (.inp 0x03#8) = true ∧ reads [0b11010011#8, 0x03#8] (.outp 0x03#8) = true ∧
    reads [0b11111011#8] .ei = true ∧ reads [0b11110011#8] .di = true ∧
    reads [0b01110110#8] .unassigned76 = true := by decide

/-! ### Single steps -/

/-- `s` with `bytes` stored at its program counter. -/
def code (bytes : List Byte) (s : State) : State := { s with mem := s.mem.load s.pc bytes }

/-- `s` with `bytes` stored at `addr`. -/
def data (addr : Word) (bytes : List Byte) (s : State) : State := { s with mem := s.mem.load addr bytes }

/-- What `view` shows of the state after one step that answers a next state. -/
def seen {α : Type} (s : State) (view : State → α) : Option α :=
  match step s with
  | .next t => some (view t)
  | _ => none

/-- T10 -/
theorem test_mov_a_b :
    let s : State := { State.reset with b := 0x12#8, h := 0x20#8, l := 0x50#8, f := 0xD5#8 }
    seen (code [0x78#8] s) (fun t => (t.a, t.f, t.cyc)) =
      some (0x12#8, 0xD5#8, 5) := by decide
/-- T13 -/
theorem test_mov_m_h :
    let s : State := data 0x2050#16 [0x99#8] { State.reset with b := 0x12#8, h := 0x20#8, l := 0x50#8, f := 0xD5#8 }
    seen (code [0x74#8] s) (fun t => (t.mem.read 0x2050#16, t.cyc)) =
      some (0x20#8, 7) := by decide
/-- R122 -/
theorem test_mov_l_m_uses_old_hl :
    let s : State := data 0x2050#16 [0x99#8] { State.reset with b := 0x12#8, h := 0x20#8, l := 0x50#8, f := 0xD5#8 }
    seen (code [0x6E#8] s) (fun t => (t.h, t.l)) =
      some (0x20#8, 0x99#8) := by decide
/-- T14 -/
theorem test_mvi_m :
    let s : State := data 0x2050#16 [0x99#8] { State.reset with b := 0x12#8, h := 0x20#8, l := 0x50#8, f := 0xD5#8 }
    seen (code [0x36#8, 0x5A#8] s) (fun t => (t.mem.read 0x2050#16, t.pc, t.cyc)) =
      some (0x5A#8, 0x0002#16, 10) := by decide
/-- T16 -/
theorem test_lxi_b_low_byte_first :
    let s : State := { State.reset with b := 0x12#8, h := 0x20#8, l := 0x50#8, f := 0xD5#8 }
    seen (code [0x01#8, 0x34#8, 0x12#8] s) (fun t => (t.b, t.c, t.pc)) =
      some (0x12#8, 0x34#8, 0x0003#16) := by decide
/-- T18 -/
theorem test_stax_b :
    let s : State := { State.reset with a := 0xA5#8, b := 0x30#8, c := 0x01#8, d := 0x30#8, e := 0x02#8 }
    seen (code [0x02#8] s) (fun t => (t.mem.read 0x3001#16, t.cyc)) =
      some (0xA5#8, 7) := by decide
/-- T19 -/
theorem test_ldax_d :
    let s : State :=
      data 0x3002#16 [0x42#8]
        { State.reset with a := 0xA5#8, b := 0x30#8, c := 0x01#8, d := 0x30#8, e := 0x02#8 }
    seen (code [0x1A#8] s) (fun t => t.a) =
      some 0x42#8 := by decide
/-- T20 -/
theorem test_sta :
    let s : State := { State.reset with a := 0xA5#8, b := 0x30#8, c := 0x01#8, d := 0x30#8, e := 0x02#8 }
    seen (code [0x32#8, 0x00#8, 0x21#8] s) (fun t => (t.mem.read 0x2100#16, t.cyc)) =
      some (0xA5#8, 13) := by decide
/-- T21 -/
theorem test_lda :
    let s : State :=
      data 0x2100#16 [0x34#8, 0x12#8]
        { State.reset with h := 0xAB#8, l := 0xCD#8, d := 0x11#8, e := 0x22#8 }
    seen (code [0x3A#8, 0x00#8, 0x21#8] s) (fun t => (t.a, t.pc, t.cyc)) =
      some (0x34#8, 0x0003#16, 13) := by decide
/-- T22 -/
theorem test_lhld :
    let s : State :=
      data 0x2100#16 [0x34#8, 0x12#8]
        { State.reset with h := 0xAB#8, l := 0xCD#8, d := 0x11#8, e := 0x22#8 }
    seen (code [0x2A#8, 0x00#8, 0x21#8] s) (fun t => (t.l, t.h, t.cyc)) =
      some (0x34#8, 0x12#8, 16) := by decide
/-- T23 -/
theorem test_shld :
    let s : State := { State.reset with h := 0xAB#8, l := 0xCD#8, d := 0x11#8, e := 0x22#8 }
    seen (code [0x22#8, 0x10#8, 0x21#8] s) (fun t => (t.mem.read 0x2110#16, t.mem.read 0x2111#16)) =
      some (0xCD#8, 0xAB#8) := by decide
/-- T24 -/
theorem test_xchg :
    let s : State := { State.reset with h := 0xAB#8, l := 0xCD#8, d := 0x11#8, e := 0x22#8 }
    seen (code [0xEB#8] s) (fun t => (t.d, t.e, t.h, t.l)) =
      some (0xAB#8, 0xCD#8, 0x11#8, 0x22#8) := by decide
/-- T26 -/
theorem test_xthl :
    let s : State := data 0x2300#16 [0x78#8, 0x56#8] { State.reset with sp := 0x2300#16, h := 0xAB#8, l := 0xCD#8 }
    seen (code [0xE3#8] s) (fun t => (t.h, t.l, t.mem.read 0x2300#16, t.mem.read 0x2301#16)) =
      some (0x56#8, 0x78#8, 0xCD#8, 0xAB#8) := by decide
/-- T25 -/
theorem test_sphl :
    let s : State := { State.reset with h := 0xAB#8, l := 0xCD#8, d := 0x11#8, e := 0x22#8 }
    seen (code [0xF9#8] s) (fun t => (t.sp, t.cyc)) =
      some (0xABCD#16, 5) := by decide
/-- T28 -/
theorem test_add_carry_out :
    seen (code [0x80#8] { State.reset with a := 0xFF#8, b := 0x01#8, f := 0x00#8 }) (fun t => (t.a, t.f)) =
      some (0x00#8, 0x55#8) := by decide
/-- T35 -/
theorem test_adc_carry_in :
    seen (code [0x88#8] { State.reset with a := 0xFF#8, b := 0xFF#8, f := 0x01#8 }) (fun t => (t.a, t.f)) =
      some (0xFF#8, 0x95#8) := by decide
/-- T33 -/
theorem test_sub_borrow :
    seen (code [0x90#8] { State.reset with a := 0x00#8, b := 0x01#8, f := 0x00#8 }) (fun t => (t.a, t.f)) =
      some (0xFF#8, 0x85#8) := by decide
/-- T34 -/
theorem test_sbb_borrow_in :
    seen (code [0x98#8] { State.reset with a := 0x10#8, b := 0x01#8, f := 0x01#8 }) (fun t => (t.a, t.f)) =
      some (0x0E#8, 0x00#8) := by decide
/-- T29 -/
theorem test_cmp_keeps_a :
    seen (code [0xB8#8] { State.reset with a := 0x7F#8, b := 0x01#8, f := 0x00#8 }) (fun t => (t.a, t.f)) =
      some (0x7F#8, 0x14#8) := by decide
/-- T7 -/
theorem test_adi :
    seen (code [0xC6#8, 0x01#8] { State.reset with a := 0x0F#8 }) (fun t => (t.a, t.f)) =
      some (0x10#8, 0x10#8) := by decide
/-- T38 -/
theorem test_aci :
    seen (code [0xCE#8, 0xBE#8] { State.reset with a := 0x56#8, f := 0x01#8 }) (fun t => (t.a, t.f, t.cyc)) =
      some (0x15#8, 0x11#8, 7) := by decide
/-- T39 -/
theorem test_sui :
    seen (code [0xD6#8, 0x01#8] { State.reset with a := 0x00#8, f := 0x00#8 }) (fun t => (t.a, t.f, t.cyc)) =
      some (0xFF#8, 0x85#8, 7) := by decide
/-- T40 -/
theorem test_sbi :
    seen (code [0xDE#8, 0xFF#8] { State.reset with a := 0x00#8, f := 0x01#8 }) (fun t => (t.a, t.f, t.cyc)) =
      some (0x00#8, 0x45#8, 7) := by decide
/-- T43 -/
theorem test_cpi_less :
    seen (code [0xFE#8, 0x4B#8] { State.reset with a := 0x4A#8, f := 0x00#8 }) (fun t => (t.a, t.f, t.cyc)) =
      some (0x4A#8, 0x85#8, 7) := by decide
/-- T45 -/
theorem test_inr_keeps_carry :
    seen (code [0x04#8] { State.reset with b := 0x0F#8, f := 0x01#8 }) (fun t => (t.b, t.f)) =
      some (0x10#8, 0x11#8) := by decide
/-- T44 -/
theorem test_dcr_keeps_carry :
    seen (code [0x05#8] { State.reset with b := 0x00#8, f := 0x01#8 }) (fun t => (t.b, t.f)) =
      some (0xFF#8, 0x85#8) := by decide
/-- T49b -/
theorem test_inr_m :
    let s : State := data 0x2000#16 [0xFF#8] { State.reset with h := 0x20#8, l := 0x00#8, f := 0x01#8 }
    seen (code [0x34#8] s) (fun t => (t.mem.read 0x2000#16, t.f, t.cyc)) =
      some (0x00#8, 0x55#8, 10) := by decide
/-- T49c -/
theorem test_inx_b_wraps_without_flags :
    seen (code [0x03#8] { State.reset with b := 0xFF#8, c := 0xFF#8, f := 0xD5#8 }) (fun t => (t.b, t.c, t.f)) =
      some (0x00#8, 0x00#8, 0xD5#8) := by decide
/-- T49c -/
theorem test_dcx_h_wraps :
    seen (code [0x2B#8] { State.reset with f := 0xD5#8 }) (fun t => (t.h, t.l, t.f)) =
      some (0xFF#8, 0xFF#8, 0xD5#8) := by decide
/-- T49e -/
theorem test_dad_b_carry_only :
    let s : State := { State.reset with h := 0xFF#8, l := 0xFF#8, c := 0x01#8, f := 0xD4#8 }
    seen (code [0x09#8] s) (fun t => (t.h, t.l, t.f)) =
      some (0x00#8, 0x00#8, 0xD5#8) := by decide
/-- T49h -/
theorem test_dad_sp :
    seen (code [0x39#8] { State.reset with l := 0x10#8, sp := 0xFFF0#16 }) (fun t => (t.h, t.l, t.f)) =
      some (0x00#8, 0x00#8, 0x01#8) := by decide
/-- T3 -/
theorem test_daa_9a :
    seen (code [0x27#8] { State.reset with a := 0x9A#8 }) (fun t => (t.a, t.f)) =
      some (0x00#8, 0x55#8) := by decide
/-- R191, 3A and 0F: bit 3 of the OR is 1 -/
theorem test_ana_half_carry :
    seen (code [0xA0#8] { State.reset with a := 0x3A#8, b := 0x0F#8, f := 0x01#8 }) (fun t => (t.a, t.f)) =
      some (0x0A#8, 0x14#8) := by decide
/-- T50i -/
theorem test_ani :
    seen (code [0xE6#8, 0x0F#8] { State.reset with a := 0x3A#8, f := 0x01#8 }) (fun t => (t.a, t.f, t.cyc)) =
      some (0x0A#8, 0x14#8, 7) := by decide
/-- T50i -/
theorem test_ori_clears_carry :
    seen (code [0xF6#8, 0x0F#8] { State.reset with a := 0x3A#8, f := 0x01#8 }) (fun t => (t.a, t.f, t.cyc)) =
      some (0x3F#8, 0x04#8, 7) := by decide
/-- T50i -/
theorem test_xri_clears_carry :
    seen (code [0xEE#8, 0xFF#8] { State.reset with a := 0x3A#8, f := 0x01#8 }) (fun t => (t.a, t.f, t.cyc)) =
      some (0xC5#8, 0x84#8, 7) := by decide
/-- R194 -/
theorem test_xra_a_clears :
    seen (code [0xAF#8] { State.reset with a := 0x5A#8, f := 0x91#8 }) (fun t => (t.a, t.f)) =
      some (0x00#8, 0x44#8) := by decide
/-- T50r -/
theorem test_cma_keeps_flags :
    seen (code [0x2F#8] { State.reset with a := 0x5A#8, f := 0xD4#8 }) (fun t => (t.a, t.f)) =
      some (0xA5#8, 0xD4#8) := by decide
/-- T50r -/
theorem test_cmc : seen (code [0x3F#8] { State.reset with f := 0x01#8 }) (fun t => t.f) = some 0x00#8 := by decide
/-- T50r -/
theorem test_stc : seen (code [0x37#8] { State.reset with f := 0xD4#8 }) (fun t => t.f) = some 0xD5#8 := by decide
/-- R201, A = 85 -/
theorem test_rlc :
    seen (code [0x07#8] { State.reset with a := 0x85#8, f := 0x54#8 }) (fun t => (t.a, t.f)) =
      some (0x0B#8, 0x55#8) := by decide
/-- R202, A = 85 -/
theorem test_rrc :
    seen (code [0x0F#8] { State.reset with a := 0x85#8, f := 0x54#8 }) (fun t => (t.a, t.f)) =
      some (0xC2#8, 0x55#8) := by decide
/-- R203, A = 85, CY = 0 -/
theorem test_ral_through_carry :
    seen (code [0x17#8] { State.reset with a := 0x85#8, f := 0x54#8 }) (fun t => (t.a, t.f)) =
      some (0x0A#8, 0x55#8) := by decide
/-- R204, A = 84, CY = 1 -/
theorem test_rar_through_carry :
    seen (code [0x1F#8] { State.reset with a := 0x84#8, f := 0x55#8 }) (fun t => (t.a, t.f)) =
      some (0xC2#8, 0x54#8) := by decide
/-- R221 -/
theorem test_jmp :
    seen (code [0xC3#8, 0x34#8, 0x12#8] State.reset) (fun t => (t.pc, t.cyc)) =
      some (0x1234#16, 10) := by decide
/-- R222, Z = 1 -/
theorem test_jnz_not_taken :
    seen (code [0xC2#8, 0x34#8, 0x12#8] { State.reset with f := 0x40#8 }) (fun t => (t.pc, t.cyc)) =
      some (0x0003#16, 10) := by decide
/-- R229, S = 1 -/
theorem test_jm_taken :
    seen (code [0xFA#8, 0x34#8, 0x12#8] { State.reset with f := 0x80#8 }) (fun t => t.pc) =
      some 0x1234#16 := by decide
/-- R227, P = 1 -/
theorem test_jpe_taken :
    seen (code [0xEA#8, 0x34#8, 0x12#8] { State.reset with f := 0x04#8 }) (fun t => t.pc) =
      some 0x1234#16 := by decide
/-- T75 -/
theorem test_jmp_out_of_range :
    seen (code [0xC3#8] { State.reset with pc := 0xFFFE#16 }) (fun t => (t.fault, t.pc, t.cyc)) =
      some (some (.outOfRange 0xFFFF#16), 0xFFFE#16, 0) := by decide
/-- T76 -/
theorem test_jmp_across_the_top :
    seen (code [0xC3#8, 0x34#8, 0x12#8] { State.reset with pc := 0xFFFF#16 }) (fun t => t.pc) =
      some 0x1234#16 := by decide
/-- T52 -/
theorem test_call_pushes_next :
    let s : State := { State.reset with pc := 0x0100#16 }
    seen (code [0xCD#8, 0x34#8, 0x12#8] s) (fun t => (t.sp, t.mem.read 0x23FE#16, t.mem.read 0x23FF#16, t.pc)) =
      some (0x23FE#16, 0x03#8, 0x01#8, 0x1234#16) := by decide
/-- T53 -/
theorem test_cnz_not_taken :
    let s : State := { State.reset with pc := 0x0100#16, f := 0x40#8 }
    seen (code [0xC4#8, 0x34#8, 0x12#8] s) (fun t => (t.sp, t.pc, t.cyc)) =
      some (0x2400#16, 0x0103#16, 11) := by decide
/-- T54 -/
theorem test_cz_taken :
    let s : State := { State.reset with pc := 0x0100#16, f := 0x40#8 }
    seen (code [0xCC#8, 0x34#8, 0x12#8] s) (fun t => (t.mem.read 0x23FE#16, t.pc, t.cyc)) =
      some (0x03#8, 0x1234#16, 17) := by decide
/-- T55 -/
theorem test_ret :
    let s : State := data 0x23FE#16 [0x03#8, 0x01#8] { State.reset with pc := 0x1234#16, sp := 0x23FE#16 }
    seen (code [0xC9#8] s) (fun t => (t.pc, t.sp, t.cyc)) =
      some (0x0103#16, 0x2400#16, 10) := by decide
/-- T56 -/
theorem test_rz_taken :
    let s : State :=
      data 0x23FE#16 [0x03#8, 0x01#8]
        { State.reset with pc := 0x1234#16, sp := 0x23FE#16, f := 0x40#8 }
    seen (code [0xC8#8] s) (fun t => (t.pc, t.cyc)) =
      some (0x0103#16, 11) := by decide
/-- T57 -/
theorem test_rnz_not_taken :
    let s : State := { State.reset with pc := 0x1234#16, sp := 0x23FE#16, f := 0x40#8 }
    seen (code [0xC0#8] s) (fun t => (t.pc, t.sp, t.cyc)) =
      some (0x1235#16, 0x23FE#16, 5) := by decide
/-- T59 -/
theorem test_rst_5 :
    let s : State := { State.reset with pc := 0x0150#16 }
    seen (code [0xEF#8] s) (fun t => (t.mem.read 0x23FE#16, t.mem.read 0x23FF#16, t.pc)) =
      some (0x51#8, 0x01#8, 0x0028#16) := by decide
/-- T51f -/
theorem test_pchl :
    seen (code [0xE9#8] { State.reset with h := 0x12#8, l := 0x34#8 }) (fun t => (t.pc, t.cyc)) =
      some (0x1234#16, 5) := by decide
/-- T61 -/
theorem test_push_psw_whole_flag_byte :
    let s : State := { State.reset with a := 0x12#8, f := 0xFF#8 }
    seen (code [0xF5#8] s) (fun t => (t.mem.read 0x23FF#16, t.mem.read 0x23FE#16, t.sp)) =
      some (0x12#8, 0xFF#8, 0x23FE#16) := by decide
/-- T65 -/
theorem test_push_at_zero_wraps :
    let s : State := { State.reset with pc := 0x0100#16, sp := 0x0000#16, h := 0x12#8, l := 0x34#8 }
    seen (code [0xE5#8] s) (fun t => (t.sp, t.mem.read 0xFFFF#16, t.mem.read 0xFFFE#16)) =
      some (0xFFFE#16, 0x12#8, 0x34#8) := by decide
/-- T72 -/
theorem test_push_out_of_range :
    seen (code [0xC5#8] { State.reset with pc := 0x0100#16, sp := 0x0001#16 }) (fun t => (t.fault, t.sp, t.pc)) =
      some (some (.outOfRange 0xFFFF#16), 0x0001#16, 0x0100#16) := by decide
/-- T63 -/
theorem test_pop_psw_whole_flag_byte :
    let s : State := data 0x23FE#16 [0x2A#8, 0x77#8] { State.reset with sp := 0x23FE#16 }
    seen (code [0xF1#8] s) (fun t => (t.a, t.f, t.sp)) =
      some (0x77#8, 0x2A#8, 0x2400#16) := by decide
/-- T64 -/
theorem test_pop_d :
    let s : State := data 0x23FE#16 [0x2A#8, 0x77#8] { State.reset with sp := 0x23FE#16 }
    seen (code [0xD1#8] s) (fun t => (t.d, t.e)) =
      some (0x77#8, 0x2A#8) := by decide
/-- T67 -/
theorem test_in_switches :
    seen (code [0xDB#8, 0x01#8] { State.reset with sw1 := 0x81#8 }) (fun t => (t.a, t.cyc)) =
      some (0x81#8, 10) := by decide
/-- T67 -/
theorem test_in_shift_window :
    let s : State := { State.reset with shiftHi := 0xAB#8, shiftLo := 0xCD#8, shiftAmt := 3#3 }
    seen (code [0xDB#8, 0x03#8] s) (fun t => t.a) =
      some 0x5E#8 := by decide
/-- T68 -/
theorem test_out_shift_data :
    let s : State := { State.reset with a := 0xFF#8, shiftHi := 0xAA#8 }
    seen (code [0xD3#8, 0x04#8] s) (fun t => (t.shiftHi, t.shiftLo)) =
      some (0xFF#8, 0xAA#8) := by decide
/-- T68 -/
theorem test_out_shift_amount :
    seen (code [0xD3#8, 0x02#8] { State.reset with a := 0xFB#8 }) (fun t => t.shiftAmt) =
      some 3#3 := by decide
/-- T69 -/
theorem test_ei :
    seen (code [0xFB#8] { State.reset with f := 0xD5#8 }) (fun t => (t.f, t.cyc)) =
      some (0xF5#8, 4) := by decide
/-- T69a -/
theorem test_di : seen (code [0xF3#8] { State.reset with f := 0xFF#8 }) (fun t => t.f) = some 0xDF#8 := by decide
/-- T69b -/
theorem test_nop_synonym :
    seen (code [0x38#8] { State.reset with f := 0xFF#8 }) (fun t => (t.f, t.pc, t.icount)) =
      some (0xFF#8, 0x0001#16, 1) := by decide
/-- T70 -/
theorem test_unassigned_opcode :
    seen (code [0x76#8] { State.reset with pc := 0x1234#16 }) (fun t => (t.fault, t.pc, t.icount)) =
      some (some (.decodeFault 0x1234#16 0x76#8), 0x1234#16, 0) := by decide

/-- The default parameters with a video range of one byte. -/
def smallVideo : Config := { defaultConfig with vramSize := 1 }

/-- A launched state at 0x0100 whose host has one pair ready. -/
def waiting : State :=
  { State.reset with pc := 0x0100#16, inputs := [(0x11#8, 0x22#8)], config := smallVideo }

/-- T80 -/
theorem test_budget_not_exceeded :
    seen (code [0x00#8] { waiting with cyc := 16667, f := 0x20#8, last := .midPhase }) (fun t => (t.pc, t.cyc)) =
      some (0x0101#16, 16671) := by decide
/-- T81 -/
theorem test_end_dispatch :
    let s : State := { waiting with cyc := 16668, f := 0x20#8, last := .midPhase }
    seen (code [0x00#8] s) (fun t => (t.pc, t.cyc, t.last, t.sw2, t.frames.length)) =
      some (0x0011#16, 5, .endPhase, 0x22#8, 1) := by decide
/-- T82 -/
theorem test_mid_dispatch :
    let s : State := { waiting with cyc := 16668, f := 0x20#8, last := .endPhase }
    seen (code [0x00#8] s) (fun t => (t.pc, t.mem.read 0x23FF#16, t.last, t.sw1)) =
      some (0x0009#16, 0x01#8, .midPhase, 0x00#8) := by decide
/-- T83 -/
theorem test_masked_dispatch :
    let s : State := { waiting with cyc := 16668, f := 0x00#8, last := .midPhase }
    seen (code [0x00#8] s) (fun t => (t.pc, t.cyc, t.last)) =
      some (0x0101#16, 5, .midPhase) := by decide
/-- T87 -/
theorem test_dispatch_out_of_range :
    let s : State := { waiting with cyc := 16668, f := 0x20#8, last := .midPhase, sp := 0x0001#16 }
    seen (code [0x00#8] s) (fun t => (t.fault, t.cyc, t.last)) =
      some (some (.outOfRange 0xFFFF#16), 16668, .midPhase) := by decide

theorem test_write_then_write_back : (Memory.write (Memory.write [] 0x2000#16 0x5A#8) 0x2000#16 0x00#8) = [] := by
  decide
theorem test_memory_order :
    Memory.load [] 0xFFFF#16 [0x01#8, 0x02#8] = [(0, 0x02#8), (0xFFFF, 0x01#8)] := by decide
theorem test_ill_formed_memory : Memory.wf [(5, 0x01#8), (5, 0x02#8)] = false := by decide

/-! ### Witnesses of the statements' hypotheses -/

/-- A state one cycle above the budget with interrupts enabled, about to dispatch END. -/
def due : State := { State.reset with cyc := 16668, f := 0x20#8, pc := 0x0100#16 }

theorem witness_EncodeInvertsDecode : decode [0xC3#8, 0xFF#8, 0xFF#8, 0x00#8] = .ok (.jmp 0xFFFF#16, [0x00#8]) := rfl

theorem witness_StepRunsDecodedInstruction :
    let s := code [0x3E#8, 0xFF#8] State.reset
    s.fault = none ∧ s.config.wf = true ∧ interruptCheck s = .ok s ∧
      decode [s.mem.read s.pc, s.mem.read (s.pc + 1#16), s.mem.read (s.pc + 2#16)] = .ok (.mviA 0xFF#8, [0x00#8]) ∧
      (Instr.mviA 0xFF#8).wf s.config = true := ⟨rfl, by decide, rfl, rfl, by decide⟩

theorem witness_StepRunsDecodedInstruction_after_dispatch :
    ∃ t, due.fault = none ∧ due.config.wf = true ∧ interruptCheck due = .ok t ∧ t.pc = 0x0010#16 ∧
      decode [t.mem.read t.pc, t.mem.read (t.pc + 1#16), t.mem.read (t.pc + 2#16)] =
        .ok (.nop, [0x00#8, 0x00#8]) ∧ Instr.nop.wf t.config = true :=
  ⟨_, rfl, by decide, rfl, rfl, rfl, rfl⟩

theorem witness_LatchedFaultStopsCore :
    State.fault { State.reset with fault := some (.outOfRange 0xFFFF#16) } = some (.outOfRange 0xFFFF#16) ∧
      ∃ t, step State.reset = .next t := ⟨rfl, _, rfl⟩

theorem witness_FaultingInstructionWritesNothing :
    let s : State := { State.reset with sp := 0x0001#16 }
    s.fault = none ∧ ∃ t, exec .pushB s = .next t ∧ t.fault = some (.outOfRange 0xFFFF#16) := ⟨rfl, _, rfl, rfl⟩

theorem witness_FaultingInstructionWritesNothing_decode :
    State.reset.fault = none ∧
      ∃ t, exec .unassigned76 State.reset = .next t ∧ t.fault = some (.decodeFault 0x0000#16 0x76#8) :=
  ⟨rfl, _, rfl, rfl⟩

theorem witness_OutOfRangeExactlyByTable :
    let s : State := { State.reset with pc := 0xFFFE#16 }
    s.fault = none ∧ Claims.outOfRangeWhen (.jz 0x1234#16) s ∧
      ∃ t, exec (.jz 0x1234#16) s = .next t ∧ t.fault = some (.outOfRange 0xFFFF#16) := ⟨rfl, rfl, _, rfl, rfl⟩

theorem witness_NoOtherErrorExists :
    Instr.nop ≠ .unassigned76 ∧ State.reset.fault = none ∧ State.reset.config.wf = true ∧
      0x76#8 ∈ State.reset.config.unassignedOpcodes := ⟨by decide, rfl, by decide, by decide⟩

theorem witness_CompletedInstructionIsCharged :
    State.reset.fault = none ∧ Claims.conditionHeld (.cz 0x1234#16) State.reset = some false ∧
      ∃ t, exec (.cz 0x1234#16) State.reset = .next t ∧ t.fault = none := ⟨rfl, rfl, _, rfl, rfl⟩

theorem witness_CompletedInstructionIsCharged_taken :
    State.reset.fault = none ∧ Claims.conditionHeld (.cnz 0x1234#16) State.reset = some true ∧
      ∃ t, exec (.cnz 0x1234#16) State.reset = .next t ∧ t.fault = none := ⟨rfl, rfl, _, rfl, rfl⟩

theorem witness_DefaultCostsByClass : defaultConfig.cycCost = defaultCycCost ∧ Instr.rst7 ≠ .unassigned76 :=
  ⟨rfl, by decide⟩

theorem witness_CostsAffectOnlyCycleCounter : ∃ t, exec .xthl State.reset = .next t := ⟨_, rfl⟩

theorem witness_FlagsOutsideMaskKept :
    (∃ t, exec .cmc State.reset = .next t) ∧ Instr.cmc ≠ .ei ∧ Instr.cmc ≠ .di ∧ Instr.cmc ≠ .popPSW ∧
      ∃ t, interruptCheck due = .ok t := ⟨⟨_, rfl⟩, by decide, by decide, by decide, _, rfl⟩

theorem witness_RegisterFrame :
    (∃ t, exec .xchg State.reset = .next t) ∧ Sel.b ≠ .m ∧ Sel.b ∉ Claims.registersWritten .xchg ∧
      Claims.writesSp .xchg = false := ⟨⟨_, rfl⟩, by decide, by decide, rfl⟩

theorem witness_MemoryFrame :
    (∃ t, exec .pushB State.reset = .next t) ∧ 0x2400#16 ∉ Claims.storedAddresses .pushB State.reset ∧
      0x23FD#16 ∉ Claims.storedAddresses .pushB State.reset := ⟨⟨_, rfl⟩, by decide, by decide⟩

theorem witness_PortAndControlFrame : (∃ t, exec .nop State.reset = .next t) ∧ ∀ d, Instr.nop ≠ .outp d :=
  ⟨⟨_, rfl⟩, fun _ h => nomatch h⟩

theorem witness_OperandWriteFrame : Sel.a ≠ .m ∧ Sel.b ≠ .a ∧ Sel.b ≠ .m := by decide

theorem witness_CheckWithoutDispatch_at_budget :
    State.cyc { State.reset with cyc := 16667 } ≤ State.reset.config.cycleBudget := by decide

theorem witness_CheckWithoutDispatch_masked :
    let s : State := { State.reset with cyc := 16668 }
    s.cyc > s.config.cycleBudget ∧ getFlag s.f .ie = false := by decide

theorem witness_CheckWithoutDispatch_fault :
    let s : State := { due with sp := 0x0001#16 }
    s.fault = none ∧ s.config.wf = true ∧ s.cyc > s.config.cycleBudget ∧ getFlag s.f .ie = true ∧ s.sp = 0x0001#16 := by
  decide

theorem witness_DispatchEffect_end :
    due.cyc > due.config.cycleBudget ∧ getFlag due.f .ie = true ∧ due.sp ≠ 0x0001#16 ∧ due.last = .midPhase ∧
      0 < due.config.vramSize := by decide

theorem witness_DispatchEffect_mid :
    let s : State := { due with last := .endPhase, sp := 0x0000#16 }
    s.cyc > s.config.cycleBudget ∧ getFlag s.f .ie = true ∧ s.sp ≠ 0x0001#16 ∧ s.last = .endPhase := by decide

theorem witness_PhasesAlternateAndInputOnlyAtEnd :
    (∃ t, step due = .next t ∧ t.last = .endPhase) ∧
      ∃ t, step { due with last := .endPhase } = .next t ∧ t.last = .midPhase := ⟨⟨_, rfl, rfl⟩, _, rfl, rfl⟩

theorem witness_ResetState : Config.wf { defaultConfig with cycleBudget := 18 } = true := by decide

theorem default_costs_bounded : CostsBounded defaultConfig := fun p hp => by
  have h : defaultCycCost.all (fun p => decide (p.1 ≤ 18 ∧ p.2 ≤ 18)) = true := by decide +kernel
  simpa using List.all_eq_true.mp h p hp

theorem witness_InvariantAtLaunch : defaultConfig.wf = true ∧ CostsBounded defaultConfig :=
  ⟨by decide, default_costs_bounded⟩

theorem witness_StepKeepsInvariant : Inv due ∧ ∃ t, step due = .next t :=
  ⟨⟨by decide, by decide, default_costs_bounded, by decide⟩, _, rfl⟩

theorem witness_InputsMatterOnlyAtEndDispatch :
    ∃ t, step { due with last := .endPhase } = .next t ∧ t.draws = due.draws := ⟨_, rfl, rfl⟩

theorem witness_StoreSeenByNextFetch_unassigned :
    let s : State := { State.reset with pc := 0xFFFF#16, a := 0x76#8 }
    ∃ t, s.fault = none ∧ exec .movMA s = .next t ∧ t.fault = none ∧
      (0x0000#16, 0x76#8) ∈ Claims.storedBytes .movMA s ∧ 0x0000#16 = t.pc ∧ 0x76#8 ∈ t.config.unassignedOpcodes :=
  ⟨_, rfl, rfl, rfl, by decide, rfl, by decide⟩

/-- A call whose pushed return address 0x0003 lands on the two first bytes of its target. -/
theorem witness_StoreSeenByNextFetch_opcode_and_operand :
    let s : State := { State.reset with sp := 0x0002#16 }
    ∃ t, s.fault = none ∧ exec (.call 0x0000#16) s = .next t ∧ t.fault = none ∧
      (0x0000#16, 0x03#8) ∈ Claims.storedBytes (.call 0x0000#16) s ∧ 0x0000#16 = t.pc ∧
      (0x0001#16, 0x00#8) ∈ Claims.storedBytes (.call 0x0000#16) s ∧ 0x0001#16 = t.pc + 1#16 ∧
      0x03#8 ∉ t.config.unassignedOpcodes ∧ t.mem.read t.pc ∉ t.config.unassignedOpcodes :=
  ⟨_, rfl, rfl, rfl, by decide, rfl, by decide, rfl, by decide, by decide⟩

theorem witness_StoreSeenByNextFetch_second_operand :
    let s := code [0x32#8, 0x05#8, 0x00#8, 0xC3#8] State.reset
    ∃ t, s.fault = none ∧ exec (.sta 0x0005#16) s = .next t ∧ t.fault = none ∧
      (0x0005#16, 0x00#8) ∈ Claims.storedBytes (.sta 0x0005#16) s ∧ 0x0005#16 = t.pc + 2#16 ∧
      t.mem.read t.pc ∉ t.config.unassignedOpcodes :=
  ⟨_, rfl, rfl, rfl, by decide, rfl, by decide⟩

theorem witness_DiagnosticOfStoppedState :
    State.reset.fault = none ∧
      State.fault { State.reset with fault := some (.decodeFault 0x1234#16 0x76#8), sp := 0xFFFF#16 } =
        some (.decodeFault 0x1234#16 0x76#8) := ⟨rfl, rfl⟩

theorem witness_LoadPairImmediate :
    (Instr.lxiSP (word 0xFF#8 0xFE#8), Pair.sp) ∈ Claims.lxiForms (word 0xFF#8 0xFE#8) ∧
      State.pc { State.reset with pc := 0xFFFD#16 } ≠ 0xFFFE#16 ∧
      State.pc { State.reset with pc := 0xFFFE#16 } = 0xFFFE#16 := by decide

theorem witness_AccumulatorTransfer :
    State.pc { State.reset with pc := 0xFFFF#16 } ≠ 0xFFFE#16 ∧
      State.pc { State.reset with pc := 0xFFFE#16 } = 0xFFFE#16 := by decide

theorem witness_DirectPairTransfer_runs :
    State.pc { State.reset with pc := 0xFFFF#16 } ≠ 0xFFFE#16 ∧ (0xFFFE#16 : Word) ≠ 0xFFFF#16 := by decide

theorem witness_DirectPairTransfer_raises :
    let s : State := { State.reset with pc := 0xFFFE#16 }
    let a : Word := 0xFFFF#16
    (s.pc = 0xFFFE#16 ∨ (0x0000#16 : Word) = 0xFFFF#16) ∧ (State.reset.pc = 0xFFFE#16 ∨ a = 0xFFFF#16) := by decide

theorem witness_Exchanges :
    State.sp { State.reset with sp := 0xFFFE#16 } ≠ 0xFFFF#16 ∧
      State.sp { State.reset with sp := 0xFFFF#16 } = 0xFFFF#16 := by decide

theorem witness_JumpTargets :
    State.pc { State.reset with pc := 0xFFFD#16 } ≠ 0xFFFE#16 ∧
      State.pc { State.reset with pc := 0xFFFE#16 } = 0xFFFE#16 := by decide

theorem witness_CallPushesReturnAddress :
    let s : State := { State.reset with pc := 0xFFFF#16, sp := 0x0000#16 }
    let t : State := { State.reset with sp := 0x0001#16 }
    let u : State := { State.reset with pc := 0xFFFE#16 }
    s.pc ≠ 0xFFFE#16 ∧ s.sp ≠ 0x0001#16 ∧ (t.pc = 0xFFFE#16 ∨ t.sp = 0x0001#16) ∧
      (u.pc = 0xFFFE#16 ∨ u.sp = 0x0001#16) := by decide

theorem witness_ConditionalCall_taken :
    let s : State := { State.reset with sp := 0x0002#16 }
    s.pc ≠ 0xFFFE#16 ∧ Claims.conditionTrue .nz s.f = true ∧ s.sp ≠ 0x0001#16 := by decide

theorem witness_ConditionalCall_not_taken :
    let s : State := { State.reset with sp := 0x0001#16 }
    s.pc ≠ 0xFFFE#16 ∧ Claims.conditionTrue .z s.f = false := by decide

theorem witness_ConditionalCall_raises :
    let s : State := { State.reset with sp := 0x0001#16 }
    let u : State := { State.reset with pc := 0xFFFE#16 }
    (s.pc = 0xFFFE#16 ∨ Claims.conditionTrue .nz s.f = true ∧ s.sp = 0x0001#16) ∧
      (u.pc = 0xFFFE#16 ∨ Claims.conditionTrue .z u.f = true ∧ u.sp = 0x0001#16) := by decide

theorem witness_ReturnPopsProgramCounter :
    let s : State := { State.reset with sp := 0xFFFE#16, f := 0x40#8 }
    let t : State := { State.reset with sp := 0xFFFF#16, f := 0x40#8 }
    s.sp ≠ 0xFFFF#16 ∧ t.sp = 0xFFFF#16 ∧ Claims.conditionTrue .z s.f = true ∧ Claims.conditionTrue .z t.f = true ∧
      Claims.conditionTrue .nz t.f = false := by decide

theorem witness_IndirectJumpAndRestart :
    State.sp { State.reset with sp := 0x0002#16 } ≠ 0x0001#16 ∧
      State.sp { State.reset with sp := 0x0001#16 } = 0x0001#16 := by decide

theorem witness_PushStoresPair :
    (Instr.pushPSW, StackPair.psw) ∈ Claims.pushForms ∧ State.sp { State.reset with sp := 0x0000#16 } ≠ 0x0001#16 ∧
      State.sp { State.reset with sp := 0x0001#16 } = 0x0001#16 := by decide

theorem witness_PopLoadsPair :
    (Instr.popPSW, StackPair.psw) ∈ Claims.popForms ∧ State.sp { State.reset with sp := 0xFFFE#16 } ≠ 0xFFFF#16 ∧
      State.sp { State.reset with sp := 0xFFFF#16 } = 0xFFFF#16 := by decide

theorem witness_PushPopRoundTrip :
    let s : State := { State.reset with sp := 0x0000#16 }
    s.fault = none ∧ s.sp ≠ 0x0001#16 ∧ Claims.pushForms[3]? = some (.pushPSW, .psw) ∧
      Claims.popForms[3]? = some (.popPSW, .psw) ∧
      ∃ t u, exec .pushPSW s = .next t ∧ exec .popPSW t = .next u :=
  ⟨rfl, by decide, rfl, rfl, _, _, rfl, rfl⟩

theorem witness_IncrementDecrementInverse :
    Claims.inrForms[6]? = some (.inrM, .m) ∧ Claims.dcrForms[6]? = some (.dcrM, .m) ∧
      (∃ t u, exec .inrM State.reset = .next t ∧ exec .dcrM t = .next u) ∧
      ∃ t u, exec .dcrM State.reset = .next t ∧ exec .inrM t = .next u :=
  ⟨rfl, rfl, ⟨_, _, rfl, rfl⟩, _, _, rfl, rfl⟩

theorem witness_PairIncrementDecrement : Pair.sp ≠ .hl := by decide

theorem witness_InputFromPort :
    let c := State.reset.config
    c.inputPortsOk = true ∧ 1#8 = c.portSw1 ∧ 2#8 = c.portSw2 ∧ 3#8 = c.portShiftRead ∧
      0#8 ≠ c.portSw1 ∧ 0#8 ≠ c.portSw2 ∧ 0#8 ≠ c.portShiftRead := by decide

theorem witness_OutputToPort :
    let c := State.reset.config
    c.outputPortsOk = true ∧ 2#8 = c.portShiftAmt ∧ 4#8 = c.portShiftData ∧ 6#8 = c.portAck ∧
      3#8 ≠ c.portShiftAmt ∧ 3#8 ≠ c.portShiftData ∧ 3#8 ≠ c.portAck := by decide

theorem witness_UnassignedOpcodeRaisesDecodeFault :
    let s := code [0x76#8] State.reset
    s.fault = none ∧ s.config.wf = true ∧ interruptCheck s = .ok s ∧
      s.mem.read s.pc ∈ s.config.unassignedOpcodes := ⟨rfl, by decide, rfl, by decide⟩

theorem witness_UnassignedOpcodeRaisesDecodeFault_both_ways :
    0x76#8 ∈ defaultConfig.unassignedOpcodes ∧
      0x76#8 ∉ Config.unassignedOpcodes { defaultConfig with unassignedOpcodes := [] } := by decide

theorem witness_SynonymsBehaveAlike :
    State.reset.config.cycCost = defaultCycCost ∧
      Instr.callFD 0xFFFF#16 ∈ [Instr.callDD 0xFFFF#16, .callED 0xFFFF#16, .callFD 0xFFFF#16] := ⟨rfl, by decide⟩

end Sys2Proof.Tests
end

/-!
SUPPORT. The frame of every instruction, said once (10_state.md): its footprint, the updates that stay within one, and
`exec_effect`, the one case split over the instructions; then the invariant and the statements on the state.
-/

namespace Sys2Proof.Machine

/-- What an instruction may change: bits of F, general registers, SP, and the part of the Port Bank OUT writes. -/
structure Footprint where
  mask : Byte
  regs : List Sel
  sp : Bool
  ports : Bool

/-- Whether an instruction may write the shift register, its amount or `ACK`: OUT alone (10_state.md R46). -/
def writesPorts : Instr → Bool
  | .outp _ => true
  | _ => false

/-- The footprint of an instruction: its flag mask (R37), its destinations, and whether it writes SP (R26) or a port. -/
def footprint (i : Instr) : Footprint where
  mask := Claims.flagMask i
  regs := Claims.registersWritten i
  sp := Claims.writesSp i
  ports := writesPorts i

/-- `p` lets the operand `i` be written; memory at HL is no register. -/
def Footprint.allowsSel (p : Footprint) (i : Sel) : Bool := i == .m || p.regs.contains i

/-- `p` lets the pair `i` be written. -/
def Footprint.allowsPair (p : Footprint) : Pair → Bool
  | .bc => p.regs.contains .b && p.regs.contains .c
  | .de => p.regs.contains .d && p.regs.contains .e
  | .hl => p.regs.contains .h && p.regs.contains .l
  | .sp => p.sp

/-- `p` lets the pair `i` of the PSW class be written; PSW takes all of F. -/
def Footprint.allowsStackPair (p : Footprint) : StackPair → Bool
  | .bc => p.allowsPair .bc
  | .de => p.allowsPair .de
  | .hl => p.allowsPair .hl
  | .psw => p.regs.contains .a && p.mask == 0xFF#8

/-- `t` differs from `s` within the footprint `p`, in PC, and in memory that stays canonical: nothing else changed. -/
structure Frame (p : Footprint) (s t : State) : Prop where
  flags : t.f &&& ~~~p.mask = s.f &&& ~~~p.mask := by rfl
  regs : ∀ r : Sel, r ≠ .m → r ∉ p.regs → readSel r t = readSel r s := by
    intro r hm hr; cases r <;> simp_all [readSel]
  sp : p.sp = false → t.sp = s.sp := by simp
  mem : s.mem.wf = true → t.mem.wf = true := by simp
  sw1 : t.sw1 = s.sw1 := by simp
  sw2 : t.sw2 = s.sw2 := by simp
  ports : p.ports = false →
    t.shiftHi = s.shiftHi ∧ t.shiftLo = s.shiftLo ∧ t.shiftAmt = s.shiftAmt ∧ t.ack = s.ack := by simp
  cyc : t.cyc = s.cyc := by simp
  last : t.last = s.last := by simp
  icount : t.icount = s.icount := by simp
  fault : t.fault = s.fault := by simp
  config : t.config = s.config := by simp
  inputs : t.inputs = s.inputs := by simp
  draws : t.draws = s.draws := by simp
  frames : t.frames = s.frames := by simp

/-! ### Updates within a footprint -/

namespace Frame

variable {p : Footprint} {s t u : State}

theorem refl (p : Footprint) (s : State) : Frame p s s where

theorem trans (h : Frame p s t) (k : Frame p t u) : Frame p s u where
  flags := k.flags.trans h.flags
  regs r hm hr := (k.regs r hm hr).trans (h.regs r hm hr)
  sp hp := (k.sp hp).trans (h.sp hp)
  mem hw := k.mem (h.mem hw)
  sw1 := k.sw1.trans h.sw1
  sw2 := k.sw2.trans h.sw2
  ports hp := by simp only [h.ports hp, k.ports hp, and_self]
  cyc := k.cyc.trans h.cyc
  last := k.last.trans h.last
  icount := k.icount.trans h.icount
  fault := k.fault.trans h.fault
  config := k.config.trans h.config
  inputs := k.inputs.trans h.inputs
  draws := k.draws.trans h.draws
  frames := k.frames.trans h.frames

theorem setPc {w : Word} : Frame p s { s with pc := w } where

theorem setSp {w : Word} (hp : p.sp = true) : Frame p s { s with sp := w } where
  sp := by simp [hp]

theorem setSpPc {v w : Word} (hp : p.sp = true) : Frame p s { s with sp := v, pc := w } :=
  (setSp (w := v) hp).trans setPc

theorem setHL {v w : Byte} (hp : p.allowsPair .hl = true) : Frame p s { s with h := v, l := w } where
  regs r hm hr := by cases r <;> simp_all [readSel, Footprint.allowsPair]

theorem setDE {v w : Byte} (hp : p.allowsPair .de = true) : Frame p s { s with d := v, e := w } where
  regs r hm hr := by cases r <;> simp_all [readSel, Footprint.allowsPair]

theorem setMem {m : Memory} (h : s.mem.wf = true → m.wf = true) : Frame p s { s with mem := m } where
  mem := h

theorem setF {f : Byte} (h : f &&& ~~~p.mask = s.f &&& ~~~p.mask) : Frame p s { s with f := f } where
  flags := h

theorem setA {v : Byte} (h : p.allowsSel .a = true) : Frame p s { s with a := v } where
  regs r hm hr := by cases r <;> simp_all [readSel, Footprint.allowsSel]

theorem setAF {v f : Byte} (ha : p.allowsSel .a = true) (hf : f &&& ~~~p.mask = s.f &&& ~~~p.mask) :
    Frame p s { s with a := v, f := f } :=
  (setA (v := v) ha).trans (setF hf)

theorem writeSel {i : Sel} (h : p.allowsSel i = true) {v : Byte} : Frame p s (writeSel i v s) where
  flags := by simp
  regs r hm hr := by
    cases i <;> cases r <;> simp_all [readSel, Machine.writeSel, Footprint.allowsSel]
  mem hw := by cases i <;> simp [Machine.writeSel, hw]

theorem writePair {i : Pair} (h : p.allowsPair i = true) {v : Word} : Frame p s (writePair i v s) where
  flags := by simp
  regs r hm hr := by
    cases i <;> cases r <;> simp_all [readSel, Machine.writePair, Footprint.allowsPair]
  sp hp := by cases i <;> simp_all [Machine.writePair, Footprint.allowsPair]

theorem writeStackPair {i : StackPair} (h : p.allowsStackPair i = true) {v : Word} :
    Frame p s (writeStackPair i v s) := by
  cases i with
  | bc => exact writePair (i := .bc) h
  | de => exact writePair (i := .de) h
  | hl => exact writePair (i := .hl) h
  | psw =>
    obtain ⟨ha, hm⟩ : Sel.a ∈ p.regs ∧ p.mask = 0xFF#8 := by simpa [Footprint.allowsStackPair] using h
    exact setAF (by simp [Footprint.allowsSel, ha]) (by simp [hm])

theorem pushed {w : Word} (hp : p.sp = true) : Frame p s (pushed w s) where
  regs r hm hr := by cases r <;> simp_all [readSel, Machine.pushed]
  sp := by simp [hp]
  mem hw := pushed_wf w hw
  ports _ := ⟨rfl, rfl, rfl, rfl⟩
  sw1 := rfl
  sw2 := rfl
  inputs := rfl
  draws := rfl
  frames := rfl

theorem portWrite {q v : Byte} (hp : p.ports = true) : Frame p s (portWrite q v s) where
  flags := by simp
  ports := by simp [hp]

end Frame

/-! ### Flags outside a computation's mask (10_state.md R33, R37) -/

theorem setFlag_outside {m : Byte} {g : Flag} (hg : m.getLsbD g.bit = true) (f : Byte) (v : Bool) :
    setFlag f g v &&& ~~~m = f &&& ~~~m := by
  refine BitVec.eq_of_getLsbD_eq fun n _ => ?_
  by_cases hn : n = g.bit
  · simp [hn, hg]
  · simp [getLsbD_setFlag, hn]

theorem szp_outside {m : Byte} (hs : m.getLsbD 7 = true) (hz : m.getLsbD 6 = true) (hp : m.getLsbD 2 = true)
    (v f : Byte) : szp v f &&& ~~~m = f &&& ~~~m := by
  simp only [szp, setFlag_outside (g := .p) hp, setFlag_outside (g := .z) hz, setFlag_outside (g := .s) hs]

theorem szp_outside_arith (v f : Byte) : szp v f &&& ~~~0xD5#8 = f &&& ~~~0xD5#8 := szp_outside rfl rfl rfl v f

theorem setFlag_cy_outside_arith (f : Byte) (v : Bool) : setFlag f .cy v &&& ~~~0xD5#8 = f &&& ~~~0xD5#8 :=
  setFlag_outside rfl f v

theorem setFlag_ac_outside_arith (f : Byte) (v : Bool) : setFlag f .ac v &&& ~~~0xD5#8 = f &&& ~~~0xD5#8 :=
  setFlag_outside rfl f v

/-- S, Z and P of a result after AC and CY, the way every operation of the mask 0xD5 writes them. -/
theorem szp_ac_cy_outside (r f : Byte) (ac cy : Bool) :
    szp r (setFlag (setFlag f .cy cy) .ac ac) &&& ~~~0xD5#8 = f &&& ~~~0xD5#8 := by
  rw [szp_outside_arith, setFlag_ac_outside_arith, setFlag_cy_outside_arith]

theorem addOp_outside (a b : Byte) (cin : Bool) (f : Byte) :
    (addOp a b cin f).flags &&& ~~~0xD5#8 = f &&& ~~~0xD5#8 := szp_ac_cy_outside _ f _ _

theorem subOp_outside (a b : Byte) (bin : Bool) (f : Byte) :
    (subOp a b bin f).flags &&& ~~~0xD5#8 = f &&& ~~~0xD5#8 := szp_ac_cy_outside _ f _ _

theorem andOp_outside (a b f : Byte) : (andOp a b f).flags &&& ~~~0xD5#8 = f &&& ~~~0xD5#8 :=
  szp_ac_cy_outside _ f _ _

theorem xorOp_outside (a b f : Byte) : (xorOp a b f).flags &&& ~~~0xD5#8 = f &&& ~~~0xD5#8 :=
  szp_ac_cy_outside _ f _ _

theorem orOp_outside (a b f : Byte) : (orOp a b f).flags &&& ~~~0xD5#8 = f &&& ~~~0xD5#8 :=
  szp_ac_cy_outside _ f _ _

theorem daaOp_outside (a f : Byte) : (daaOp a f).flags &&& ~~~0xD5#8 = f &&& ~~~0xD5#8 := by
  simp only [daaOp, szp_outside_arith]
  split <;> split <;> simp only [setFlag_ac_outside_arith, setFlag_cy_outside_arith]

theorem incOp_outside (v f : Byte) : (incOp v f).flags &&& ~~~0xD4#8 = f &&& ~~~0xD4#8 :=
  (szp_outside rfl rfl rfl _ _).trans (setFlag_outside rfl f _)

theorem decOp_outside (v f : Byte) : (decOp v f).flags &&& ~~~0xD4#8 = f &&& ~~~0xD4#8 :=
  (szp_outside rfl rfl rfl _ _).trans (setFlag_outside rfl f _)

/-! ### What an instruction does to the state -/

/-- An outcome of an instruction with opcode byte `op` from `s`: a next state is either `s` with a fault raised, or a
state framed by `p` that is then charged for `op`. -/
def Effect (op : Byte) (p : Footprint) (s : State) (o : Out) : Prop :=
  ∀ t, o = .next t → (∃ f, t = raise f s) ∨ ∃ u taken, Frame p s u ∧ t = charge op taken u

namespace Effect

variable {op : Byte} {p : Footprint} {s u : State}

theorem raised {f : FatalFault} : Effect op p s (.next (raise f s)) := fun _ h => .inl ⟨f, by cases h; rfl⟩

theorem refused {r : Refusal} : Effect op p s (.refused r) := nofun

theorem charged {taken : Bool} (h : Frame p s u) : Effect op p s (.next (charge op taken u)) :=
  fun _ ht => .inr ⟨u, taken, h, by cases ht; rfl⟩

theorem completed {len : Word} (h : Frame p s u) : Effect op p s (.next (complete op len u)) :=
  charged (h.trans .setPc)

theorem ite {c : Prop} [Decidable c] {o o' : Out} (h : Effect op p s o) (h' : Effect op p s o') :
    Effect op p s (if c then o else o') := by
  split
  · exact h
  · exact h'

theorem loadPair {i : Pair} (h : p.allowsPair i = true) {v : Word} : Effect op p s (loadPair op i v s) := by
  rw [loadPair_eq]
  exact .ite .raised (.completed (.writePair h))

theorem jump {a : Word} : Effect op p s (jump op a s) := by
  rw [jump_eq]
  exact .ite .raised (.charged .setPc)

theorem jumpIf {cc : Cond} {a : Word} : Effect op p s (jumpIf op cc a s) := by
  rw [jumpIf_eq]
  exact .ite .raised (.ite (.charged .setPc) (.completed (.refl _ _)))

theorem call (hp : p.sp = true) {a : Word} : Effect op p s (call op a s) := by
  rw [call_eq]
  exact .ite .raised (.charged (.trans (.pushed hp) .setPc))

theorem callIf (hp : p.sp = true) {cc : Cond} {a : Word} : Effect op p s (callIf op cc a s) := by
  rw [callIf_eq]
  exact .ite .raised (.ite (.ite .raised (.charged (.trans (.pushed hp) .setPc))) (.completed (.refl _ _)))

theorem ret (hp : p.sp = true) : Effect op p s (ret op s) := by
  rw [ret_eq]
  exact .ite .raised (.charged (.setSpPc hp))

theorem retIf (hp : p.sp = true) {cc : Cond} : Effect op p s (retIf op cc s) := by
  rw [retIf_eq]
  exact .ite (.ite .raised (.charged (.setSpPc hp))) (.completed (.refl _ _))

theorem restart (hp : p.sp = true) {a : Word} : Effect op p s (restart op a s) := by
  rw [restart_eq]
  exact .ite .raised (.charged (.trans (.pushed hp) .setPc))

theorem pushPair (hp : p.sp = true) {i : StackPair} : Effect op p s (pushPair op i s) := by
  rw [pushPair_eq]
  exact .ite .raised (.completed (.pushed hp))

theorem popPair (hp : p.sp = true) {i : StackPair} (h : p.allowsStackPair i = true) :
    Effect op p s (popPair op i s) := by
  rw [popPair_eq]
  exact .ite .raised (.completed (.trans (.setSp hp) (.writeStackPair h)))

theorem input (ha : p.allowsSel .a = true) {d : Byte} : Effect 0xDB#8 p s (execInp d s) := by
  unfold execInp
  split
  · exact .completed (.setA ha)
  · exact .completed (.refl _ _)

theorem lda (ha : p.allowsSel .a = true) {a : Word} : Effect 0x3A#8 p s (execLda a s) := by
  rw [execLda_eq]
  exact .ite .raised (.completed (.setA ha))

theorem sta {a : Word} : Effect 0x32#8 p s (execSta a s) := by
  rw [execSta_eq]
  exact .ite .raised (.completed (.setMem fun h => Memory.wf_write h _ _))

theorem lhld (hp : p.allowsPair .hl = true) {a : Word} : Effect 0x2A#8 p s (execLhld a s) := by
  rw [execLhld_eq]
  exact .ite .raised (.completed (.setHL hp))

theorem shld {a : Word} : Effect 0x22#8 p s (execShld a s) := by
  rw [execShld_eq]
  exact .ite .raised (.completed (.setMem fun h => Memory.wf_write (Memory.wf_write h _ _) _ _))

theorem xthl (hp : p.allowsPair .hl = true) : Effect 0xE3#8 p s (execXthl s) := by
  rw [execXthl_eq]
  have hmem (h : s.mem.wf = true) : ((s.mem.write (s.sp + 1#16) s.h).write s.sp s.l).wf = true :=
    Memory.wf_write (Memory.wf_write h _ _) _ _
  exact .ite .raised (.completed (.trans (.setMem hmem) (.setHL hp)))

theorem xchg (hd : p.allowsPair .de = true) (hh : p.allowsPair .hl = true) : Effect 0xEB#8 p s (execXchg s) :=
  .completed (.trans (t := { s with d := s.h, e := s.l }) (.setDE hd) (.setHL hh))

theorem unassigned76 : Effect 0x76#8 p s (execUnassigned76 s) := .ite .raised .refused

end Effect

/-- Every instruction stays within its footprint and is charged for its own opcode byte, or raises a fault and writes
nothing else: the one case split over the instructions that the frame statements share. -/
theorem exec_effect (i : Instr) (s : State) : Effect i.opcode (footprint i) s (exec i s) :=
  match i with
  | .nop | .nop08 | .nop10 | .nop18 | .nop20 | .nop28 | .nop30 | .nop38 => .completed (.refl _ _)
  | .movBB | .movBC | .movBD | .movBE | .movBH | .movBL | .movBM | .movBA | .movCB | .movCC | .movCD | .movCE
  | .movCH | .movCL | .movCM | .movCA | .movDB | .movDC | .movDD | .movDE | .movDH | .movDL | .movDM | .movDA
  | .movEB | .movEC | .movED | .movEE | .movEH | .movEL | .movEM | .movEA | .movHB | .movHC | .movHD | .movHE
  | .movHH | .movHL | .movHM | .movHA | .movLB | .movLC | .movLD | .movLE | .movLH | .movLL | .movLM | .movLA
  | .movMB | .movMC | .movMD | .movME | .movMH | .movML | .movMA | .movAB | .movAC | .movAD | .movAE | .movAH
  | .movAL | .movAM | .movAA | .mviB _ | .mviC _ | .mviD _ | .mviE _ | .mviH _ | .mviL _ | .mviM _ | .mviA _ =>
    .completed (.writeSel rfl)
  | .lxiB _ | .lxiD _ | .lxiH _ | .lxiSP _ => .loadPair rfl
  | .ldaxB | .ldaxD => .completed (.setA rfl)
  | .staxB | .staxD => .completed (.setMem fun h => Memory.wf_write h _ _)
  | .inxB | .dcxB | .inxD | .dcxD | .inxH | .dcxH | .inxSP | .dcxSP => .completed (.writePair rfl)
  | .dadB | .dadD | .dadH | .dadSP => .completed (.trans (.setF (setFlag_outside rfl _ _)) (.writePair rfl))
  | .inrB | .inrC | .inrD | .inrE | .inrH | .inrL | .inrM | .inrA =>
    .completed (.trans (.setF (incOp_outside _ _)) (.writeSel rfl))
  | .dcrB | .dcrC | .dcrD | .dcrE | .dcrH | .dcrL | .dcrM | .dcrA =>
    .completed (.trans (.setF (decOp_outside _ _)) (.writeSel rfl))
  | .addB | .addC | .addD | .addE | .addH | .addL | .addM | .addA | .adi _ | .adcB | .adcC | .adcD | .adcE | .adcH
  | .adcL | .adcM | .adcA | .aci _ => .completed (.setAF rfl (addOp_outside _ _ _ _))
  | .subB | .subC | .subD | .subE | .subH | .subL | .subM | .subA | .sui _ | .sbbB | .sbbC | .sbbD | .sbbE | .sbbH
  | .sbbL | .sbbM | .sbbA | .sbi _ => .completed (.setAF rfl (subOp_outside _ _ _ _))
  | .cmpB | .cmpC | .cmpD | .cmpE | .cmpH | .cmpL | .cmpM | .cmpA | .cpi _ =>
    .completed (.setF (subOp_outside _ _ _ _))
  | .anaB | .anaC | .anaD | .anaE | .anaH | .anaL | .anaM | .anaA | .ani _ =>
    .completed (.setAF rfl (andOp_outside _ _ _))
  | .xraB | .xraC | .xraD | .xraE | .xraH | .xraL | .xraM | .xraA | .xri _ =>
    .completed (.setAF rfl (xorOp_outside _ _ _))
  | .oraB | .oraC | .oraD | .oraE | .oraH | .oraL | .oraM | .oraA | .ori _ =>
    .completed (.setAF rfl (orOp_outside _ _ _))
  | .jmp _ | .jmpCB _ => .jump
  | .jnz _ | .jz _ | .jnc _ | .jc _ | .jpo _ | .jpe _ | .jp _ | .jm _ => .jumpIf
  | .call _ | .callDD _ | .callED _ | .callFD _ => .call rfl
  | .cnz _ | .cz _ | .cnc _ | .cc _ | .cpo _ | .cpe _ | .cp _ | .cm _ => .callIf rfl
  | .ret | .retD9 => .ret rfl
  | .rnz | .rz | .rnc | .rc | .rpo | .rpe | .rp | .rm => .retIf rfl
  | .rst0 | .rst1 | .rst2 | .rst3 | .rst4 | .rst5 | .rst6 | .rst7 => .restart rfl
  | .pushB | .pushD | .pushH | .pushPSW => .pushPair rfl
  | .popB | .popD | .popH | .popPSW => .popPair rfl rfl
  | .daa => .completed (.setAF rfl (daaOp_outside _ _))
  | .rlc | .rrc | .ral | .rar => .completed (.setAF rfl (setFlag_outside rfl _ _))
  | .stc | .cmc | .ei | .di => .completed (.setF (setFlag_outside rfl _ _))
  | .cma => .completed (.setA rfl)
  | .sphl => .completed (.setSp rfl)
  | .pchl => .charged .setPc
  | .lda _ => .lda rfl
  | .sta _ => .sta
  | .lhld _ => .lhld rfl
  | .shld _ => .shld
  | .xthl => .xthl rfl
  | .xchg => .xchg rfl rfl
  | .inp _ => .input rfl
  | .outp _ => .completed (.portWrite rfl)
  | .unassigned76 => .unassigned76

/-! ### Flags and registers an instruction leaves alone -/

/-- A bit outside the mask is equal in flag bytes that agree outside the mask. -/
theorem getLsbD_eq_of_outside {f g m : Byte} {n : Nat} (h : f &&& ~~~m = g &&& ~~~m) (hm : m.getLsbD n = false) :
    f.getLsbD n = g.getLsbD n := by
  have hbit := congrArg (BitVec.getLsbD · n) h
  by_cases hn : n < 8
  · simpa only [BitVec.getLsbD_and, BitVec.getLsbD_not, hm, hn, decide_true, Bool.not_false, Bool.and_true] using hbit
  · simp [BitVec.getLsbD_of_ge f n (by omega), BitVec.getLsbD_of_ge g n (by omega)]

theorem flagMask_ie_of_eq {i : Instr} {m : Byte} (h : Claims.flagMask i = m) (hm : m.getLsbD Flag.ie.bit = false) :
    (Claims.flagMask i).getLsbD Flag.ie.bit = false := h ▸ hm

/-- IE is in the mask of EI, DI and POP PSW alone (10_state.md R32, R37). The masks of the instructions without an
immediate compute to a literal bit; the others have the arithmetic mask or none. -/
theorem flagMask_ie {i : Instr} (hei : i ≠ .ei) (hdi : i ≠ .di) (hpop : i ≠ .popPSW) :
    (Claims.flagMask i).getLsbD Flag.ie.bit = false := by
  cases i <;> try rfl
  case ei => exact absurd rfl hei
  case di => exact absurd rfl hdi
  case popPSW => exact absurd rfl hpop
  case adi | aci | sui | sbi | ani | xri | ori | cpi => exact flagMask_ie_of_eq (m := 0xD5#8) rfl rfl
  all_goals exact flagMask_ie_of_eq (m := 0x00#8) rfl rfl

theorem exec_flags_outside {i : Instr} {s t : State} (h : exec i s = .next t) :
    t.f &&& ~~~(Claims.flagMask i) = s.f &&& ~~~(Claims.flagMask i) := by
  obtain ⟨f, rfl⟩ | ⟨u, taken, hu, rfl⟩ := exec_effect i s t h
  · rfl
  · exact hu.flags

@[simp] theorem dispatched_f (s : State) : (dispatched s).f = s.f := by
  obtain ⟨-, -, -, -, -, -, -, hf, -⟩ := dispatched_frame s
  exact hf

@[simp] theorem dispatched_cyc (s : State) : (dispatched s).cyc = s.cyc := by
  obtain ⟨-, -, -, -, -, -, -, -, hcyc, -⟩ := dispatched_frame s
  exact hcyc

@[simp] theorem dispatched_config (s : State) : (dispatched s).config = s.config := by
  obtain ⟨-, -, -, -, -, -, -, -, -, -, -, hconf, -⟩ := dispatched_frame s
  exact hconf

/-- No interrupt check and no dispatch changes F (10_state.md R31). -/
theorem interruptCheck_f {s t : State} (h : interruptCheck s = .ok t) : t.f = s.f := by
  obtain ⟨_, rfl⟩ | ⟨_, _, rfl⟩ | ⟨_, _, _, rfl⟩ := interruptCheck_ok h
  · rfl
  · rfl
  · rw [dispatched_f]

theorem readSel_raise (r : Sel) (f : FatalFault) (s : State) : readSel r (raise f s) = readSel r s := by
  cases r <;> rfl

theorem readSel_charge (r : Sel) (op : Byte) (taken : Bool) (s : State) :
    readSel r (charge op taken s) = readSel r s := by
  cases r <;> rfl

/-- OUT alone writes a port (10_state.md R46). -/
theorem writesPorts_eq_false {i : Instr} (h : ∀ d, i ≠ .outp d) : writesPorts i = false := by
  unfold writesPorts
  split
  · next d => exact absurd rfl (h d)
  · rfl

/-! ### The invariant -/

theorem cycleCost_le {c : Config} (h : CostsBounded c) (op : Byte) (taken : Bool) : cycleCost c op taken ≤ 18 := by
  have hp : (c.cycCost.getD op.toNat (0, 0)).1 ≤ 18 ∧ (c.cycCost.getD op.toNat (0, 0)).2 ≤ 18 := by
    rw [List.getD_eq_getElem?_getD]
    cases hget : c.cycCost[op.toNat]? with
    | none => simp
    | some p => exact h p (List.mem_of_getElem? hget)
  cases taken
  · exact hp.1
  · exact hp.2

/-- No entry of the cost table of 30_encoding.md R110 is above 18: a closed fact about its 256 entries. -/
theorem costsBounded_default : CostsBounded defaultConfig := by
  have h : defaultCycCost.all (fun p => p.1 ≤ 18 && p.2 ≤ 18) = true := by decide +kernel
  intro p hp
  simpa using List.all_eq_true.1 h p hp

theorem le_cycleBudget_of_wf {c : Config} (h : c.wf = true) : 18 ≤ c.cycleBudget := by
  simp only [Config.wf, Config.budgetOk, Bool.and_eq_true, decide_eq_true_eq] at h
  obtain ⟨⟨⟨hbudget, -⟩, -⟩, -⟩ := h
  exact hbudget

/-- The check of a step keeps the parameters and the canonical form, and leaves `CYC` within the budget: it was, or at
most 18 of it remain, which well-formed parameters allow (60_exceptions.md R338). -/
theorem interruptCheck_inv {s t : State} (hs : Inv s) (h : interruptCheck s = .ok t) :
    MemCanonical t ∧ t.config = s.config ∧ t.cyc ≤ s.config.cycleBudget := by
  obtain ⟨hmem, hwf, -, hcyc⟩ := hs
  have hbudget := le_cycleBudget_of_wf hwf
  have hsub : s.cyc - s.config.cycleBudget ≤ s.config.cycleBudget := by omega
  obtain ⟨hle, rfl⟩ | ⟨_, _, rfl⟩ | ⟨_, _, _, rfl⟩ := interruptCheck_ok h
  · exact ⟨hmem, rfl, hle⟩
  · exact ⟨hmem, rfl, hsub⟩
  · exact ⟨dispatched_wf hmem, dispatched_config _, (dispatched_cyc _).trans_le hsub⟩

/-- An instruction keeps the parameters and the canonical form, and adds at most 18 to `CYC` (10_state.md R41). -/
theorem exec_inv {i : Instr} {s t : State} (hmem : MemCanonical s) (hcost : CostsBounded s.config)
    (h : exec i s = .next t) : MemCanonical t ∧ t.config = s.config ∧ t.cyc ≤ s.cyc + 18 := by
  obtain ⟨f, rfl⟩ | ⟨u, taken, hu, rfl⟩ := exec_effect i s t h
  · exact ⟨hmem, rfl, Nat.le_add_right _ _⟩
  · have hle := cycleCost_le hcost i.opcode taken
    refine ⟨hu.mem hmem, hu.config, ?_⟩
    rw [charge_cyc, hu.config, hu.cyc]
    omega

theorem Inv.of_config_eq {s t : State} (hs : Inv s) (hmem : MemCanonical t) (hconf : t.config = s.config)
    (hcyc : t.cyc ≤ s.config.cycleBudget + 18) : Inv t := by
  obtain ⟨-, hwf, hcost, -⟩ := hs
  exact ⟨hmem, hconf ▸ hwf, hconf ▸ hcost, by rwa [CycBounded, hconf]⟩

theorem wf_loadImage (image : List (Word × List Byte)) {m : Memory} (h : m.wf = true) :
    (loadImage image m).wf = true := by
  induction image generalizing m with
  | nil => exact h
  | cons piece rest ih => exact ih (Memory.wf_load h _ _)

theorem launch_inv {c : Config} (hwf : c.wf = true) (hcost : CostsBounded c) (image : List (Word × List Byte))
    (inputs : List (Byte × Byte)) : Inv (launch c image inputs) :=
  ⟨wf_loadImage image Memory.wf_nil, hwf, hcost, Nat.zero_le _⟩

/-! ### Steps from a stopped core and from a launch -/

theorem step_of_fault {s : State} {f : FatalFault} (h : s.fault = some f) : step s = .fault (.stopped f) := by
  simp only [step, h]

/-- The step of a running core under well-formed parameters whose check has no effect. -/
theorem step_of_check_same {s : State} (hf : s.fault = none) (hwf : s.config.wf = true)
    (hc : interruptCheck s = .ok s) : step s = runInstruction s := by
  simp only [step, hf, hwf, hc, if_true]

theorem interruptCheck_of_le {s : State} (h : s.cyc ≤ s.config.cycleBudget) : interruptCheck s = .ok s := by
  rw [interruptCheck_eq, if_neg (Nat.not_lt.2 h)]

/-! ### Writing an operand by selector -/

theorem readSel_writeSel_same {i : Sel} (h : i ≠ .m) (v : Byte) (s : State) : readSel i (writeSel i v s) = v := by
  cases i
  case m => exact absurd rfl h
  all_goals rfl

/-- The footprint that lets the operand `i` alone be written. -/
def selFootprint (i : Sel) : Footprint := { mask := 0#8, regs := [i], sp := false, ports := false }

theorem readSel_writeSel_other {i j : Sel} (hj : j ≠ i) (hm : j ≠ .m) (v : Byte) (s : State) :
    readSel j (writeSel i v s) = readSel j s :=
  have h : Frame (selFootprint i) s (writeSel i v s) := .writeSel (by simp [selFootprint, Footprint.allowsSel])
  h.regs j hm (by simpa [selFootprint] using hj)

theorem writeSel_mem_read (i : Sel) (v : Byte) (s : State) (x : Word) :
    (writeSel i v s).mem.read x = if i = .m ∧ x = s.hl then v else s.mem.read x := by
  cases i
  case m => simp [writeSel, Memory.read_write]
  all_goals rfl

theorem writeSel_other_fields (i : Sel) (v : Byte) (s : State) :
    { writeSel i v s with a := s.a, b := s.b, c := s.c, d := s.d, e := s.e, h := s.h, l := s.l, mem := s.mem } = s := by
  cases i <;> rfl

/-! ### The obligations on the state -/

/-- Settles O23: the check leaves `CYC` within the budget and the instruction adds at most 18. -/
theorem stepKeepsInvariant : Obligations.StepKeepsInvariant := by
  intro s t hs h
  obtain ⟨-, -, hcost, -⟩ := id hs
  obtain ⟨-, -, ⟨f, -, rfl⟩ | ⟨u, hu, hrest⟩⟩ := step_next h
  · exact ⟨hs, rfl⟩
  · obtain ⟨humem, huconf, hucyc⟩ := interruptCheck_inv hs hu
    obtain ⟨f, -, rfl⟩ | ⟨i, -, hexec⟩ := hrest
    · exact ⟨hs.of_config_eq humem huconf (Nat.le_add_right_of_le hucyc), huconf⟩
    · obtain ⟨htmem, htconf, htcyc⟩ := exec_inv humem (huconf ▸ hcost) hexec
      have hconf : t.config = s.config := htconf.trans huconf
      exact ⟨hs.of_config_eq htmem hconf (by omega), hconf⟩

/-- Settles O13: flags outside the footprint's mask are kept, and the mask holds IE for three instructions only. -/
theorem flagsOutsideMaskKept : Obligations.FlagsOutsideMaskKept := by
  refine ⟨fun i s t h => ?_, fun s t h => interruptCheck_f h⟩
  have hflags := exec_flags_outside h
  exact ⟨hflags, fun hei hdi hpop => getLsbD_eq_of_outside hflags (flagMask_ie hei hdi hpop)⟩

/-- Settles O14: registers and SP outside the footprint are kept. -/
theorem registerFrame : Obligations.RegisterFrame := by
  intro i s t h
  obtain ⟨f, rfl⟩ | ⟨u, taken, hu, rfl⟩ := exec_effect i s t h
  · exact ⟨fun r _ _ => readSel_raise r f s, fun _ => rfl⟩
  · exact ⟨fun r hm hr => (readSel_charge r _ _ u).trans (hu.regs r hm hr), hu.sp⟩

/-- Settles O16: the fields no footprint holds are kept, and the ports by every instruction but OUT. -/
theorem portAndControlFrame : Obligations.PortAndControlFrame := by
  intro i s t h
  obtain ⟨f, rfl⟩ | ⟨u, taken, hu, rfl⟩ := exec_effect i s t h
  · exact ⟨rfl, rfl, rfl, rfl, rfl, rfl, rfl, fun _ => ⟨rfl, rfl, rfl, rfl⟩⟩
  · exact ⟨hu.sw1, hu.sw2, hu.last, hu.config, hu.inputs, hu.draws, hu.frames,
      fun hout => hu.ports (writesPorts_eq_false hout)⟩

/-- Settles O6: with a fault latched the step answers the fault, so a next state excludes one. -/
theorem latchedFaultStopsCore : Obligations.LatchedFaultStopsCore :=
  ⟨fun _ _ h => step_of_fault h, fun _ _ h => (step_next h).1⟩

/-- Settles O17: the written register reads back, the others are outside the footprint of the one register, and memory
changes as one byte write at HL. -/
theorem operandWriteFrame : Obligations.OperandWriteFrame := fun i v s =>
  ⟨fun h => readSel_writeSel_same h v s, fun _ hj hm => readSel_writeSel_other hj hm v s,
    writeSel_mem_read i v s, writeSel_other_fields i v s⟩

/-- Settles O21: at a launch `CYC` is 0, so the first check has no effect. -/
theorem resetState : Obligations.ResetState := by
  refine ⟨by simp [State.reset, State.resetWith, defaultConfig], fun c image inputs hwf => ?_⟩
  have hcheck : interruptCheck (launch c image inputs) = .ok (launch c image inputs) :=
    interruptCheck_of_le (Nat.zero_le _)
  exact ⟨rfl, rfl, rfl, rfl, rfl, rfl, rfl, hcheck, step_of_check_same rfl hwf hcheck⟩

/-- Settles O22: the reset state is the launch of the default parameters with no image and no inputs. -/
theorem invariantAtLaunch : Obligations.InvariantAtLaunch :=
  ⟨launch_inv (by decide) costsBounded_default [] [],
    fun _ image inputs hwf hcost => launch_inv hwf hcost image inputs⟩

end Sys2Proof.Machine

/-!
SUPPORT. What every instruction stores, said once (20_memory.md R62 to R70): the bytes of `Claims.storedBytes`, which a
read then finds, and nothing else; then the statements on memory.
-/

namespace Sys2Proof.Machine

/-- `m'` is `m` with `bytes` stored: each reads back at its address, and every other byte is as before. -/
structure StoresBytes (bytes : List (Word × Byte)) (m m' : Memory) : Prop where
  stored : ∀ p ∈ bytes, m'.read p.1 = p.2
  other : ∀ x, x ∉ bytes.map Prod.fst → m'.read x = m.read x

namespace StoresBytes

theorem none (m : Memory) : StoresBytes [] m m where
  stored _ hp := absurd hp List.not_mem_nil
  other _ _ := rfl

theorem byte (m : Memory) (a : Word) (v : Byte) : StoresBytes [(a, v)] m (m.write a v) where
  stored p hp := by
    obtain rfl := List.mem_singleton.1 hp
    exact Memory.read_write_same m a v
  other _ hx := Memory.read_write_other m (by simpa using hx) v

/-- The two addresses of a word differ, so the second write keeps the byte of the first (R64, R68). -/
theorem word (m : Memory) (a : Word) (hi lo : Byte) :
    StoresBytes (Claims.wordBytes a hi lo) m ((m.write (a + 1#16) hi).write a lo) where
  stored p hp := by
    have hne : a + 1#16 ≠ a := by simp
    obtain rfl | rfl : p = (a, lo) ∨ p = (a + 1#16, hi) := by simpa [Claims.wordBytes] using hp
    · exact Memory.read_write_same _ a lo
    · rw [Memory.read_write_other _ hne, Memory.read_write_same]
  other x hx := by
    obtain ⟨hlo, hhi⟩ : x ≠ a ∧ x ≠ a + 1#16 := by simpa [Claims.wordBytes] using hx
    rw [Memory.read_write_other _ hlo, Memory.read_write_other _ hhi]

theorem pushed (s : State) (v : Word) : StoresBytes (Claims.pushedBytes s v) s.mem (pushed v s).mem :=
  word s.mem (s.sp - 2#16) (hi8 v) (lo8 v)

end StoresBytes

/-- An outcome of an instruction that stores `bytes` from `s`: a next state is either `s` with a fault raised, or has
the memory of `s` with `bytes` stored. -/
def StoreEffect (s : State) (o : Out) (bytes : List (Word × Byte)) : Prop :=
  ∀ t, o = .next t → (∃ f, t = raise f s) ∨ StoresBytes bytes s.mem t.mem

namespace StoreEffect

variable {bytes : List (Word × Byte)} {op : Byte} {s t : State}

theorem raised {f : FatalFault} : StoreEffect s (.next (raise f s)) bytes := fun _ h => .inl ⟨f, by cases h; rfl⟩

theorem refused {r : Refusal} : StoreEffect s (.refused r) bytes := nofun

theorem next (h : StoresBytes bytes s.mem t.mem) : StoreEffect s (.next t) bytes :=
  fun _ ht => .inr (by cases ht; exact h)

theorem unchanged (h : t.mem = s.mem) : StoreEffect s (.next t) [] := next (h ▸ .none s.mem)

theorem ite {c : Prop} [Decidable c] {o o' : Out} (h : StoreEffect s o bytes) (h' : StoreEffect s o' bytes) :
    StoreEffect s (if c then o else o') bytes := by
  split
  · exact h
  · exact h'

theorem loadPair {i : Pair} {v : Word} : StoreEffect s (loadPair op i v s) [] := by
  rw [loadPair_eq]
  exact .ite .raised (.unchanged (writePair_mem i v s))

theorem stepPair {i : Pair} {delta : Word} : StoreEffect s (stepPair op i delta s) [] :=
  .unchanged (writePair_mem i _ s)

theorem lda {a : Word} : StoreEffect s (execLda a s) [] := by
  rw [execLda_eq]
  exact .ite .raised (.unchanged rfl)

theorem lhld {a : Word} : StoreEffect s (execLhld a s) [] := by
  rw [execLhld_eq]
  exact .ite .raised (.unchanged rfl)

theorem jump {a : Word} : StoreEffect s (jump op a s) [] := by
  rw [jump_eq]
  exact .ite .raised (.unchanged rfl)

theorem jumpIf {cc : Cond} {a : Word} : StoreEffect s (jumpIf op cc a s) [] := by
  rw [jumpIf_eq]
  exact .ite .raised (.ite (.unchanged rfl) (.unchanged rfl))

theorem ret : StoreEffect s (ret op s) [] := by
  rw [ret_eq]
  exact .ite .raised (.unchanged rfl)

theorem retIf {cc : Cond} : StoreEffect s (retIf op cc s) [] := by
  rw [retIf_eq]
  exact .ite (.ite .raised (.unchanged rfl)) (.unchanged rfl)

theorem popPair {i : StackPair} : StoreEffect s (popPair op i s) [] := by
  rw [popPair_eq]
  exact .ite .raised (.unchanged (writeStackPair_mem i _ _))

theorem input {d : Byte} : StoreEffect s (execInp d s) [] := by
  unfold execInp
  split
  · exact .unchanged rfl
  · exact .unchanged rfl

theorem unassigned76 : StoreEffect s (execUnassigned76 s) [] := .ite .raised .refused

theorem sta {a : Word} : StoreEffect s (execSta a s) [(a, s.a)] := by
  rw [execSta_eq]
  exact .ite .raised (.next (.byte _ _ _))

theorem shld {a : Word} : StoreEffect s (execShld a s) (Claims.wordBytes a s.h s.l) := by
  rw [execShld_eq]
  exact .ite .raised (.next (.word _ _ _ _))

theorem xthl : StoreEffect s (execXthl s) (Claims.wordBytes s.sp s.h s.l) := by
  rw [execXthl_eq]
  exact .ite .raised (.next (.word _ _ _ _))

theorem pushPair {i : StackPair} : StoreEffect s (pushPair op i s) (Claims.pushedBytes s (readStackPair i s)) := by
  rw [pushPair_eq]
  exact .ite .raised (.next (.pushed _ _))

theorem call {a : Word} : StoreEffect s (call op a s) (Claims.pushedBytes s (s.pc + 3#16)) := by
  rw [call_eq]
  exact .ite .raised (.next (.pushed _ _))

theorem restart {a : Word} : StoreEffect s (restart op a s) (Claims.pushedBytes s (s.pc + 1#16)) := by
  rw [restart_eq]
  exact .ite .raised (.next (.pushed _ _))

/-- A conditional call stores its return address only when its condition holds (44_call_return.md R240). -/
theorem callIf {cc : Cond} {a : Word} :
    StoreEffect s (callIf op cc a s) (if condHolds cc s.f then Claims.pushedBytes s (s.pc + 3#16) else []) := by
  rw [callIf_eq]
  by_cases hc : condHolds cc s.f = true
  · rw [if_pos hc, if_pos hc]
    exact .ite .raised (.ite .raised (.next (.pushed _ _)))
  · rw [if_neg hc, if_neg hc]
    exact .ite .raised (.unchanged rfl)

end StoreEffect

/-- Every instruction stores its bytes of R70 and no other, or raises a fault and writes nothing else: the one case
split over the instructions that the statements on memory share. The instructions without a case of their own are one
next state with the memory they started with. -/
theorem exec_storeEffect (i : Instr) (s : State) : StoreEffect s (exec i s) (Claims.storedBytes i s) := by
  cases i
  case movMB | movMC | movMD | movME | movMH | movML | movMA | mviM | inrM | dcrM | staxB | staxD =>
    exact .next (.byte _ _ _)
  case sta => exact .sta
  case shld => exact .shld
  case xthl => exact .xthl
  case pushB | pushD | pushH | pushPSW => exact .pushPair
  case call | callDD | callED | callFD => exact .call
  case cnz | cz | cnc | cc | cpo | cpe | cp | cm => exact .callIf
  case rst0 | rst1 | rst2 | rst3 | rst4 | rst5 | rst6 | rst7 => exact .restart
  case lxiB | lxiD | lxiH | lxiSP => exact .loadPair
  case inxB | dcxB | inxD | dcxD | inxH | dcxH | inxSP | dcxSP => exact .stepPair
  case lda => exact .lda
  case lhld => exact .lhld
  case jmp | jmpCB => exact .jump
  case jnz | jz | jnc | jc | jpo | jpe | jp | jm => exact .jumpIf
  case ret | retD9 => exact .ret
  case rnz | rz | rnc | rc | rpo | rpe | rp | rm => exact .retIf
  case popB | popD | popH | popPSW => exact .popPair
  case inp => exact .input
  case outp d => exact .unchanged (portWrite_mem d s.a s)
  case unassigned76 => exact .unassigned76
  all_goals exact .unchanged rfl

/-- Without a fault latched at its end, an instruction stored its bytes (20_memory.md R70). -/
theorem exec_storesBytes {i : Instr} {s t : State} (h : exec i s = .next t) (hf : t.fault = none) :
    StoresBytes (Claims.storedBytes i s) s.mem t.mem := by
  obtain ⟨f, rfl⟩ | hst := exec_storeEffect i s t h
  · cases hf
  · exact hst

/-! ### The fetch after a store (20_memory.md R77) -/

theorem fetch_of_unassigned {s : State} (h : s.mem.read s.pc ∈ s.config.unassignedOpcodes) :
    fetch s = .error (.decodeFault s.pc (s.mem.read s.pc)) := by
  rw [fetch_eq, if_pos h]

theorem fetch_of_assigned {s : State} (h : s.mem.read s.pc ∉ s.config.unassignedOpcodes) :
    fetch s = .ok (decodeBytes (s.mem.read s.pc) (s.mem.read (s.pc + 1#16)) (s.mem.read (s.pc + 2#16))) := by
  rw [fetch_eq, if_neg h]

/-! ### The obligations on memory -/

/-- Settles O15: a fault leaves all of memory, and the bytes stored leave every other byte. -/
theorem memoryFrame : Obligations.MemoryFrame := by
  intro i s t h x hx
  obtain ⟨f, rfl⟩ | hst := exec_storeEffect i s t h
  · rfl
  · exact hst.other x hx

/-- Settles O25: the fetch reads at three addresses, and a byte stored at one of them is what it reads there. -/
theorem storeSeenByNextFetch : Obligations.StoreSeenByNextFetch := by
  intro i s t _ h hf p hp
  obtain ⟨a, v⟩ := p
  have hread : t.mem.read a = v := (exec_storesBytes h hf).stored (a, v) hp
  subst hread
  refine ⟨?_, ?_, ?_, ?_⟩ <;> rintro rfl hop
  · exact fetch_of_unassigned hop
  · exact fetch_of_assigned hop
  · exact fetch_of_assigned hop
  · exact fetch_of_assigned hop

end Sys2Proof.Machine

/-!
SUPPORT. The encoding, said once (30_encoding.md R90, R100, R105): what the decoder answers and from which bytes, the
bytes of a decoded instruction, the length and the default cost of an opcode byte; then the statements of the family.
-/

namespace Sys2Proof

/-! ### From an instruction to its bytes and back -/

open Laws.RoundTrip in
/-- The 256 round trips, assembled over the constructors. -/
theorem roundTrip : ∀ i : Instr, Statement i
  | .nop => nop | .lxiB v => lxiB v | .staxB => staxB | .inxB => inxB | .inrB => inrB | .dcrB => dcrB
  | .mviB d => mviB d | .rlc => rlc | .nop08 => nop08 | .dadB => dadB | .ldaxB => ldaxB | .dcxB => dcxB | .inrC => inrC
  | .dcrC => dcrC | .mviC d => mviC d | .rrc => rrc | .nop10 => nop10 | .lxiD v => lxiD v | .staxD => staxD
  | .inxD => inxD | .inrD => inrD | .dcrD => dcrD | .mviD d => mviD d | .ral => ral | .nop18 => nop18 | .dadD => dadD
  | .ldaxD => ldaxD | .dcxD => dcxD | .inrE => inrE | .dcrE => dcrE | .mviE d => mviE d | .rar => rar | .nop20 => nop20
  | .lxiH v => lxiH v | .shld v => shld v | .inxH => inxH | .inrH => inrH | .dcrH => dcrH | .mviH d => mviH d
  | .daa => daa | .nop28 => nop28 | .dadH => dadH | .lhld v => lhld v | .dcxH => dcxH | .inrL => inrL | .dcrL => dcrL
  | .mviL d => mviL d | .cma => cma | .nop30 => nop30 | .lxiSP v => lxiSP v | .sta v => sta v | .inxSP => inxSP
  | .inrM => inrM | .dcrM => dcrM | .mviM d => mviM d | .stc => stc | .nop38 => nop38 | .dadSP => dadSP
  | .lda v => lda v | .dcxSP => dcxSP | .inrA => inrA | .dcrA => dcrA | .mviA d => mviA d | .cmc => cmc
  | .movBB => movBB | .movBC => movBC | .movBD => movBD | .movBE => movBE | .movBH => movBH | .movBL => movBL
  | .movBM => movBM | .movBA => movBA | .movCB => movCB | .movCC => movCC | .movCD => movCD | .movCE => movCE
  | .movCH => movCH | .movCL => movCL | .movCM => movCM | .movCA => movCA | .movDB => movDB | .movDC => movDC
  | .movDD => movDD | .movDE => movDE | .movDH => movDH | .movDL => movDL | .movDM => movDM | .movDA => movDA
  | .movEB => movEB | .movEC => movEC | .movED => movED | .movEE => movEE | .movEH => movEH | .movEL => movEL
  | .movEM => movEM | .movEA => movEA | .movHB => movHB | .movHC => movHC | .movHD => movHD | .movHE => movHE
  | .movHH => movHH | .movHL => movHL | .movHM => movHM | .movHA => movHA | .movLB => movLB | .movLC => movLC
  | .movLD => movLD | .movLE => movLE | .movLH => movLH | .movLL => movLL | .movLM => movLM | .movLA => movLA
  | .movMB => movMB | .movMC => movMC | .movMD => movMD | .movME => movME | .movMH => movMH | .movML => movML
  | .unassigned76 => unassigned76 | .movMA => movMA | .movAB => movAB | .movAC => movAC | .movAD => movAD
  | .movAE => movAE | .movAH => movAH | .movAL => movAL | .movAM => movAM | .movAA => movAA | .addB => addB
  | .addC => addC | .addD => addD | .addE => addE | .addH => addH | .addL => addL | .addM => addM | .addA => addA
  | .adcB => adcB | .adcC => adcC | .adcD => adcD | .adcE => adcE | .adcH => adcH | .adcL => adcL | .adcM => adcM
  | .adcA => adcA | .subB => subB | .subC => subC | .subD => subD | .subE => subE | .subH => subH | .subL => subL
  | .subM => subM | .subA => subA | .sbbB => sbbB | .sbbC => sbbC | .sbbD => sbbD | .sbbE => sbbE | .sbbH => sbbH
  | .sbbL => sbbL | .sbbM => sbbM | .sbbA => sbbA | .anaB => anaB | .anaC => anaC | .anaD => anaD | .anaE => anaE
  | .anaH => anaH | .anaL => anaL | .anaM => anaM | .anaA => anaA | .xraB => xraB | .xraC => xraC | .xraD => xraD
  | .xraE => xraE | .xraH => xraH | .xraL => xraL | .xraM => xraM | .xraA => xraA | .oraB => oraB | .oraC => oraC
  | .oraD => oraD | .oraE => oraE | .oraH => oraH | .oraL => oraL | .oraM => oraM | .oraA => oraA | .cmpB => cmpB
  | .cmpC => cmpC | .cmpD => cmpD | .cmpE => cmpE | .cmpH => cmpH | .cmpL => cmpL | .cmpM => cmpM | .cmpA => cmpA
  | .rnz => rnz | .popB => popB | .jnz v => jnz v | .jmp v => jmp v | .cnz v => cnz v | .pushB => pushB
  | .adi d => adi d | .rst0 => rst0 | .rz => rz | .ret => ret | .jz v => jz v | .jmpCB v => jmpCB v | .cz v => cz v
  | .call v => call v | .aci d => aci d | .rst1 => rst1 | .rnc => rnc | .popD => popD | .jnc v => jnc v
  | .outp d => outp d | .cnc v => cnc v | .pushD => pushD | .sui d => sui d | .rst2 => rst2 | .rc => rc
  | .retD9 => retD9 | .jc v => jc v | .inp d => inp d | .cc v => cc v | .callDD v => callDD v | .sbi d => sbi d
  | .rst3 => rst3 | .rpo => rpo | .popH => popH | .jpo v => jpo v | .xthl => xthl | .cpo v => cpo v | .pushH => pushH
  | .ani d => ani d | .rst4 => rst4 | .rpe => rpe | .pchl => pchl | .jpe v => jpe v | .xchg => xchg | .cpe v => cpe v
  | .callED v => callED v | .xri d => xri d | .rst5 => rst5 | .rp => rp | .popPSW => popPSW | .jp v => jp v | .di => di
  | .cp v => cp v | .pushPSW => pushPSW | .ori d => ori d | .rst6 => rst6 | .rm => rm | .sphl => sphl | .jm v => jm v
  | .ei => ei | .cm v => cm v | .callFD v => callFD v | .cpi d => cpi d | .rst7 => rst7
/-! ### From bytes to an instruction and back -/

theorem opLength_cases (op : Byte) : opLength op = 1 ∨ opLength op = 2 ∨ opLength op = 3 := by
  unfold opLength
  split_ifs <;> simp

/-- What the decoder read: an opcode byte, and of two operand bytes as many as the opcode's format has (R90, R101). -/
theorem decode_ok {bytes rest : List Byte} {i : Instr} (h : decode bytes = .ok (i, rest)) :
    ∃ op b2 b3, i = decodeBytes op b2 b3 ∧ bytes = [op, b2, b3].take (opLength op) ++ rest := by
  cases bytes with
  | nil => cases h
  | cons op operands =>
    simp only [decode] at h
    split at h
    case h_1 hlen =>
      cases h
      exact ⟨op, 0#8, 0#8, rfl, by simp [hlen]⟩
    case h_2 b2 _ hlen =>
      cases h
      exact ⟨op, b2, 0#8, rfl, by simp [hlen]⟩
    case h_3 b2 b3 _ hlen =>
      cases h
      exact ⟨op, b2, b3, rfl, by simp [hlen]⟩
    case h_4 => cases h

/-- Each of the 256 entries of the opcode map stands at its own opcode byte (R100). -/
theorem opcode_decodeBytes_zero : ∀ op : Byte, (decodeBytes op 0#8 0#8).opcode = op := by decide +kernel

theorem operands_word (op b2 b3 : Byte) : [op, lo8 (word b3 b2), hi8 (word b3 b2)] = [op, b2, b3] := by
  rw [lo8_word, hi8_word]

/-- The map's entry at the opcode of an instruction keeps every operand byte of its format: a word operand by the laws
of its two bytes, the other formats by evaluation. -/
theorem encode_decodeBytes_of_opcode {i : Instr} {op : Byte} (hop : i.opcode = op) (b2 b3 : Byte) :
    encode (decodeBytes op b2 b3) = [op, b2, b3].take (opLength op) := by
  cases i <;> simp only [Instr.opcode, encode, List.headD_cons] at hop <;> subst hop
  case lxiB | lxiD | lxiH | lxiSP | shld | lhld | sta | lda | jmp | jmpCB | jnz | jz | jnc | jc | jpo | jpe | jp | jm
      | call | callDD | callED | callFD | cnz | cz | cnc | cc | cpo | cpe | cp | cm =>
    exact operands_word _ b2 b3
  all_goals rfl

/-- The bytes of a decoded instruction: every opcode byte is the opcode of some instruction, so the case split over
the instructions covers the map. -/
theorem encode_decodeBytes (op b2 b3 : Byte) : encode (decodeBytes op b2 b3) = [op, b2, b3].take (opLength op) :=
  encode_decodeBytes_of_opcode (opcode_decodeBytes_zero op) b2 b3

/-! ### The length of an opcode byte (30_encoding.md R105) -/

/-- The bytes of an instruction are what the decoder reads for it, so their number is its opcode's. -/
theorem length_encode (i : Instr) : (encode i).length = opLength i.opcode := by
  obtain ⟨op, b2, b3, -, hbytes⟩ := decode_ok (roundTrip i [])
  rw [List.append_nil] at hbytes
  obtain hlen | hlen | hlen := opLength_cases op <;> simp [Instr.opcode, hbytes, hlen]

/-- The three-byte opcodes: a closed fact about the 256 bytes. -/
theorem opLength_eq_three_iff : ∀ op : Byte, opLength op = 3 ↔
    op.toNat < 64 ∧ op.toNat % 16 = 1 ∨ op ∈ [0x22#8, 0x2A#8, 0x32#8, 0x3A#8] ∨
    192 ≤ op.toNat ∧ (op.toNat % 8 = 2 ∨ op.toNat % 8 = 4) ∨
    op ∈ [0xC3#8, 0xCB#8, 0xCD#8, 0xDD#8, 0xED#8, 0xFD#8] := by decide +kernel

/-- The two-byte opcodes: a closed fact about the 256 bytes. -/
theorem opLength_eq_two_iff : ∀ op : Byte, opLength op = 2 ↔
    op.toNat < 64 ∧ op.toNat % 8 = 6 ∨ 192 ≤ op.toNat ∧ op.toNat % 8 = 6 ∨ op ∈ [0xD3#8, 0xDB#8] := by
  decide +kernel

end Sys2Proof

namespace Sys2Proof.Machine

/-! ### The default cost of an instruction (30_encoding.md R110) -/

/-- The table's entry at the opcode of an instruction is the cost of its class; byte 0x76 stands as (0, 0) in both. -/
theorem defaultCycCost_opcode (i : Instr) : defaultCycCost.getD i.opcode.toNat (0, 0) = Claims.classCost i := by
  cases i <;> rfl

theorem cycleCost_opcode_of_default {c : Config} (h : c.cycCost = defaultCycCost) (i : Instr) (taken : Bool) :
    cycleCost c i.opcode taken = if taken then (Claims.classCost i).2 else (Claims.classCost i).1 := by
  simp only [cycleCost, h, defaultCycCost_opcode]

/-- Under the default table instructions of one class are charged alike. -/
theorem charge_opcode_congr {s : State} (hs : s.config.cycCost = defaultCycCost) {i j : Instr}
    (hij : Claims.classCost i = Claims.classCost j) (taken : Bool) :
    charge i.opcode taken s = charge j.opcode taken s := by
  simp only [charge, cycleCost_opcode_of_default hs, hij]

/-! ### Synonyms: the shared operations at two opcode bytes that are charged alike (R103) -/

section
variable {s : State} (hs : s.config.cycCost = defaultCycCost) {i j : Instr}
  (hij : Claims.classCost i = Claims.classCost j)
include hs hij

theorem noOperation_opcode_congr : noOperation i.opcode s = noOperation j.opcode s :=
  congrArg Host.Outcome.next (charge_opcode_congr (s := advance 1#16 s) hs hij false)

theorem jump_opcode_congr (a : Word) : jump i.opcode a s = jump j.opcode a s := by
  rw [jump_eq, jump_eq, charge_opcode_congr (s := { s with pc := a }) hs hij]

theorem ret_opcode_congr : ret i.opcode s = ret j.opcode s := by
  rw [ret_eq, ret_eq, charge_opcode_congr (s := { s with sp := s.sp + 2#16, pc := wordAt s.mem s.sp }) hs hij]

theorem call_opcode_congr (a : Word) : call i.opcode a s = call j.opcode a s := by
  rw [call_eq, call_eq, charge_opcode_congr (s := { pushed _ s with pc := a }) hs hij]

end

/-! ### The obligations on the encoding -/

/-- Settles O1: the round trips of the instructions, together. -/
theorem decodeInvertsEncode : Obligations.DecodeInvertsEncode := roundTrip

/-- Settles O2: the decoder took the opcode byte and its format's operand bytes, and encoding gives these back. -/
theorem encodeInvertsDecode : Obligations.EncodeInvertsDecode := by
  intro bytes rest i h
  obtain ⟨op, b2, b3, rfl, rfl⟩ := decode_ok h
  rw [encode_decodeBytes]

/-- Settles O11: both columns of the table agree with the class. -/
theorem defaultCostsByClass : Obligations.DefaultCostsByClass := fun i _ h _ =>
  Prod.ext (cycleCost_opcode_of_default h i false) (cycleCost_opcode_of_default h i true)

/-- Settles O3: each word is evaluated. -/
theorem writtenWordsDecode : Obligations.WrittenWordsDecode :=
  ⟨rfl, rfl, rfl, rfl, rfl, rfl, rfl, rfl, rfl, rfl, rfl, rfl, rfl, rfl⟩

/-- Settles O4: the lists of R105 are those of the two longer formats, and every other opcode is one byte long. -/
theorem lengthFromOpcode : Obligations.LengthFromOpcode :=
  ⟨length_encode, fun op => ⟨opLength_eq_three_iff op, opLength_eq_two_iff op, opLength_cases op⟩⟩

/-- Settles O59: a synonym is the shared operation of the opcode it stands for, at a byte of the same class. -/
theorem synonymsBehaveAlike : Obligations.SynonymsBehaveAlike := by
  intro s a hs
  refine ⟨?_, ⟨jump_opcode_congr hs (i := .jmpCB a) (j := .jmp a) rfl a, rfl⟩,
    ⟨ret_opcode_congr hs (i := .retD9) (j := .ret) rfl, rfl⟩, ?_⟩
  · have hnop : ∀ i : Instr, Claims.classCost i = (4, 4) → noOperation i.opcode s = exec .nop s := fun i h =>
      noOperation_opcode_congr hs (j := .nop) h
    simp only [List.forall_mem_cons]
    exact ⟨⟨hnop .nop08 rfl, rfl⟩, ⟨hnop .nop10 rfl, rfl⟩, ⟨hnop .nop18 rfl, rfl⟩, ⟨hnop .nop20 rfl, rfl⟩,
      ⟨hnop .nop28 rfl, rfl⟩, ⟨hnop .nop30 rfl, rfl⟩, ⟨hnop .nop38 rfl, rfl⟩, nofun⟩
  · have hcall : ∀ i : Instr, Claims.classCost i = (17, 17) → call i.opcode a s = exec (.call a) s := fun i h =>
      call_opcode_congr hs (j := .call a) h a
    simp only [List.forall_mem_cons]
    exact ⟨⟨hcall (.callDD a) rfl, rfl⟩, ⟨hcall (.callED a) rfl, rfl⟩, ⟨hcall (.callFD a) rfl, rfl⟩, nofun⟩

end Sys2Proof.Machine

/-!
SUPPORT. The data transfers, said once (40_data_transfer.md R120 to R135): what an instruction is charged, its next state
as an update of the state before it, and the rows of each table of forms; then the statements of the family.
-/

namespace Sys2Proof.Machine

/-! ### What an instruction is charged and where it ends -/

/-- An instruction whose class has one cost is charged it, through the not-taken entry of its opcode (30_encoding.md R110). -/
theorem charges_of_classCost {i : Instr} {cycles : Nat} (h : Claims.classCost i = (cycles, cycles)) (s : State) :
    Claims.Charges s i cycles (s.cyc + cycleCost s.config i.opcode false) :=
  ⟨false, rfl, fun hd => by rw [cycleCost_opcode_of_default hd, h, if_neg Bool.false_ne_true]⟩

/-- Writing an operand moves neither PC nor a counter, so these end as they do from the state before it. -/
theorem complete_writeSel (op : Byte) (len : Word) (i : Sel) (v : Byte) (s : State) :
    complete op len (writeSel i v s) = { writeSel i v s with
      pc := s.pc + len, cyc := s.cyc + cycleCost s.config op false, icount := s.icount + 1 } := by
  simp [complete, charge, advance]

/-- Writing a pair moves neither PC nor a counter, so these end as they do from the state before it. -/
theorem complete_writePair (op : Byte) (len : Word) (i : Pair) (v : Word) (s : State) :
    complete op len (writePair i v s) = { writePair i v s with
      pc := s.pc + len, cyc := s.cyc + cycleCost s.config op false, icount := s.icount + 1 } := by
  simp [complete, charge, advance]

/-- An instruction that ends with `v` written to an operand changes that operand, and the rest of the state as by its
end. -/
theorem exec_write_operand {i : Instr} {s : State} {len : Word} (j : Sel) {v : Byte} {cycles : Nat}
    (hexec : exec i s = .next (complete i.opcode len (writeSel j v s)))
    (hcost : Claims.classCost i = (cycles, cycles)) :
    ∃ n, exec i s = .next { writeSel j v s with pc := s.pc + len, cyc := n, icount := s.icount + 1 } ∧
      Claims.Charges s i cycles n :=
  ⟨_, by rw [hexec, complete_writeSel], charges_of_classCost hcost s⟩

/-- An instruction that ends with one byte written at `a`: the write is its only effect on memory, and the rest of the
state changes as by its end (20_memory.md R62). -/
theorem exec_store_byte {i : Instr} {s : State} {len a : Word} {v : Byte} {cycles : Nat}
    (hexec : exec i s = .next (complete i.opcode len { s with mem := s.mem.write a v }))
    (hcost : Claims.classCost i = (cycles, cycles)) :
    ∃ t, exec i s = .next t ∧ Claims.Stores1 s t a v ∧
      { t with mem := s.mem } = { s with pc := s.pc + len, cyc := t.cyc, icount := s.icount + 1 } ∧
      Claims.Charges s i cycles t.cyc :=
  ⟨_, hexec, fun x => Memory.read_write s.mem a x v, rfl, charges_of_classCost hcost s⟩

/-- The state after L is stored at an address and H above it has the word HL stored there (20_memory.md R64). -/
theorem stores2_hl_of_mem_eq {s t : State} {a : Word} (h : t.mem = (s.mem.write (a + 1#16) s.h).write a s.l) :
    Claims.Stores2 s t a s.hl := by
  intro x
  rw [← read_write16, h, State.hl, hi8_word, lo8_word]

/-! ### The rows of the tables of forms: byte, class and shared operation of each -/

theorem classCost_encode_movRegReg : ∀ p ∈ Claims.movRegReg, Claims.classCost p.1 = (5, 5) ∧
    encode p.1 = [BitVec.ofNat 8 (0x40 + 8 * Claims.selNum p.2.1 + Claims.selNum p.2.2)] := by
  decide

theorem classCost_encode_movRegMem : ∀ p ∈ Claims.movRegMem, Claims.classCost p.1 = (7, 7) ∧
    encode p.1 = [BitVec.ofNat 8 (0x46 + 8 * Claims.selNum p.2)] := by
  decide

theorem classCost_encode_movMemReg : ∀ p ∈ Claims.movMemReg, Claims.classCost p.1 = (7, 7) ∧
    encode p.1 = [BitVec.ofNat 8 (0x70 + Claims.selNum p.2)] := by
  decide

theorem exec_movRegReg {p : Instr × Sel × Sel} (hp : p ∈ Claims.movRegReg) (s : State) :
    exec p.1 s = movSel p.1.opcode p.2.1 p.2.2 s := by
  fin_cases hp <;> rfl

theorem exec_movRegMem {p : Instr × Sel} (hp : p ∈ Claims.movRegMem) (s : State) :
    exec p.1 s = movSel p.1.opcode p.2 .m s := by
  fin_cases hp <;> rfl

theorem exec_movMemReg {p : Instr × Sel} (hp : p ∈ Claims.movMemReg) (s : State) :
    exec p.1 s = .next (complete p.1.opcode 1#16 { s with mem := s.mem.write s.hl (readSel p.2 s) }) := by
  fin_cases hp <;> rfl

theorem classCost_encode_mviReg {d : Byte} {p : Instr × Sel} (hp : p ∈ Claims.mviReg d) : Claims.classCost p.1 = (7, 7) ∧
    encode p.1 = [BitVec.ofNat 8 (0x06 + 8 * Claims.selNum p.2), d] := by
  fin_cases hp <;> exact ⟨rfl, rfl⟩

theorem exec_mviReg {d : Byte} {p : Instr × Sel} (hp : p ∈ Claims.mviReg d) (s : State) :
    exec p.1 s = mviSel p.1.opcode p.2 d s := by
  fin_cases hp <;> rfl

theorem classCost_encode_lxiForms {v : Word} {p : Instr × Pair} (hp : p ∈ Claims.lxiForms v) : Claims.classCost p.1 = (10, 10) ∧
    encode p.1 = [BitVec.ofNat 8 (0x01 + 16 * Claims.pairNum p.2), lo8 v, hi8 v] := by
  fin_cases hp <;> exact ⟨rfl, rfl⟩

theorem exec_lxiForms {v : Word} {p : Instr × Pair} (hp : p ∈ Claims.lxiForms v) (s : State) :
    exec p.1 s = loadPair p.1.opcode p.2 v s := by
  fin_cases hp <;> rfl

/-! ### The obligations on data transfer -/

/-- Settles O27: every form is the move of one operand, read before the destination is written. -/
theorem movToRegister : Obligations.MovToRegister := by
  refine ⟨fun p hp s => ?_, fun p hp s => ?_⟩
  · obtain ⟨hcost, henc⟩ := classCost_encode_movRegReg p hp
    obtain ⟨n, hnext⟩ := exec_write_operand p.2.1 (exec_movRegReg hp s) hcost
    exact ⟨n, henc, hnext⟩
  · obtain ⟨hcost, henc⟩ := classCost_encode_movRegMem p hp
    obtain ⟨n, hnext⟩ := exec_write_operand p.2 (exec_movRegMem hp s) hcost
    exact ⟨n, henc, hnext⟩

/-- Settles O28: the one operand written is the byte at HL. -/
theorem movRegisterToMemory : Obligations.MovRegisterToMemory := fun p hp s =>
  have ⟨hcost, henc⟩ := classCost_encode_movMemReg p hp
  have ⟨t, hnext⟩ := exec_store_byte (exec_movMemReg hp s) hcost
  ⟨t, henc, hnext⟩

/-- Settles O29: the register forms write an operand, and the form on M writes the byte at HL. -/
theorem moveImmediate : Obligations.MoveImmediate := by
  refine fun d => ⟨fun p hp s => ?_, fun s => ?_⟩
  · obtain ⟨hcost, henc⟩ := classCost_encode_mviReg hp
    obtain ⟨n, hnext⟩ := exec_write_operand p.2 (exec_mviReg hp s) hcost
    exact ⟨n, henc, hnext⟩
  · obtain ⟨t, hnext⟩ := exec_store_byte (i := .mviM d) (s := s) rfl rfl
    exact ⟨t, rfl, hnext⟩

/-- Settles O30: the write of the pair, whose bytes are those of the immediate word. -/
theorem loadPairImmediate : Obligations.LoadPairImmediate := by
  intro hi lo p hp s
  obtain ⟨hcost, henc⟩ := classCost_encode_lxiForms hp
  rw [hi8_word, lo8_word] at henc
  have hexec := (exec_lxiForms hp s).trans (loadPair_eq ..)
  rw [complete_writePair] at hexec
  refine ⟨henc, fun hpc => ⟨_, hexec.trans (if_neg hpc), charges_of_classCost hcost s, ?_⟩,
    fun hpc => hexec.trans (if_pos hpc)⟩
  refine ⟨?_, ?_, ?_, ?_⟩ <;> intro hpair <;> simp only [hpair, writePair, hi8_word, lo8_word]

/-- Settles O31: the transfers of A, a load or a store of the byte at one address. -/
theorem accumulatorTransfer : Obligations.AccumulatorTransfer := by
  intro s
  refine ⟨fun a => ⟨fun hpc => ⟨?_, ?_⟩, fun hpc => ?_, rfl, rfl⟩, ?_, ?_⟩
  · exact exec_write_operand (i := .lda a) .a ((execLda_eq a s).trans (if_neg hpc)) rfl
  · exact exec_store_byte (i := .sta a) ((execSta_eq a s).trans (if_neg hpc)) rfl
  · exact ⟨(execLda_eq a s).trans (if_pos hpc), (execSta_eq a s).trans (if_pos hpc)⟩
  · rw [List.forall_mem_cons, List.forall_mem_singleton]
    exact ⟨⟨rfl, exec_write_operand .a (exec_ldaxB s) rfl⟩, rfl, exec_write_operand .a (exec_ldaxD s) rfl⟩
  · rw [List.forall_mem_cons, List.forall_mem_singleton]
    exact ⟨⟨rfl, exec_store_byte (exec_staxB s) rfl⟩, rfl, exec_store_byte (exec_staxD s) rfl⟩

/-- Settles O32: both run or raise by one condition, on PC and the address. -/
theorem directPairTransfer : Obligations.DirectPairTransfer := by
  intro a s
  refine ⟨fun hpc ha => ?_, fun h => ⟨(execLhld_eq a s).trans (if_pos h), (execShld_eq a s).trans (if_pos h)⟩, rfl, rfl⟩
  have hruns : ¬(s.pc = 0xFFFE#16 ∨ a = 0xFFFF#16) := not_or.2 ⟨hpc, ha⟩
  refine ⟨⟨_, (execLhld_eq a s).trans (if_neg hruns), ?_⟩,
    _, (execShld_eq a s).trans (if_neg hruns), stores2_hl_of_mem_eq rfl, rfl, ?_⟩
  · exact charges_of_classCost (i := .lhld a) rfl s
  · exact charges_of_classCost (i := .shld a) rfl s

/-- Settles O33: XTHL stores HL at SP after it has read the word there, which it loads into HL. -/
theorem exchanges : Obligations.Exchanges := by
  intro s
  refine ⟨⟨_, rfl, rfl, ?_⟩, ⟨_, rfl, rfl, ?_⟩, rfl, fun hsp => ?_, fun hsp => (execXthl_eq s).trans (if_pos hsp)⟩
  · exact charges_of_classCost (i := .xchg) rfl s
  · exact charges_of_classCost (i := .sphl) rfl s
  · refine ⟨_, (execXthl_eq s).trans (if_neg hsp), stores2_hl_of_mem_eq rfl, rfl, ?_⟩
    exact charges_of_classCost (i := .xthl) rfl s

end Sys2Proof.Machine

/-!
SUPPORT. The arithmetic family, said once (41_arithmetic.md R150 to R176): the flags a result leaves, what each computation
answers, the rows of each table of forms, and what INR, DCR and the pair accessors do; then the statements of the family.
-/

namespace Sys2Proof.Machine

/-! ### The flags of a result (10_state.md R30 to R36) -/

theorem length_filter_eq_sum_toNat (q : Nat → Bool) (l : List Nat) :
    (l.filter q).length = (l.map fun k => (q k).toNat).sum := by
  induction l with
  | nil => rfl
  | cons k rest ih => cases hk : q k <;> simp [hk, ih, Nat.add_comm]

/-- The number of 1 bits of a byte, as the sum of its binary digits (R35). -/
theorem popCount_eq_sum (v : Byte) : popCount v = ((List.range 8).map fun k => v.toNat / 2 ^ k % 2).sum := by
  simp only [popCount, length_filter_eq_sum_toNat, BitVec.getLsbD, Nat.toNat_testBit]

theorem parity_eq_decide_sum (v : Byte) :
    parity v = decide (((List.range 8).map fun k => v.toNat / 2 ^ k % 2).sum % 2 = 0) := by
  rw [parity, popCount_eq_sum]
  rfl

/-- S is set for a result of 128 and above (R30, R36). -/
theorem sign_eq_decide_le (v : Byte) : v.getLsbD 7 = decide (128 ≤ v.toNat) :=
  (BitVec.msb_eq_getLsbD_last v).symm.trans (BitVec.msb_eq_decide v)

/-- A flag byte that holds the flags of the result `r`, and agrees with `f` outside a mask without IE and bits 3 and 1. -/
theorem flagsFrom_of_getFlag {f' f m r : Byte} {ac cy : Bool} (hkept : f' &&& ~~~m = f &&& ~~~m)
    (hm : m.getLsbD 5 = false ∧ m.getLsbD 3 = false ∧ m.getLsbD 1 = false)
    (hs : getFlag f' .s = r.getLsbD 7) (hz : getFlag f' .z = (r == 0#8)) (hp : getFlag f' .p = parity r)
    (hac : getFlag f' .ac = ac) (hcy : getFlag f' .cy = cy) : Claims.FlagsFrom f' f r ac cy := by
  obtain ⟨hie, hthree, hone⟩ := hm
  exact ⟨hs.trans (sign_eq_decide_le r), hz, getLsbD_eq_of_outside hkept hie, hac, getLsbD_eq_of_outside hkept hthree,
    hp.trans (parity_eq_decide_sum r), getLsbD_eq_of_outside hkept hone, hcy⟩

/-! ### What each computation answers (R151, R152, R168, R170, R175) -/

/-- The computation `x`, from the flag byte `f`, answers the value `r` and its flags, with the given AC and CY. -/
def AluResult.Answers (x : AluResult) (f r : Byte) (ac cy : Bool) : Prop :=
  x.value = r ∧ Claims.FlagsFrom x.flags f r ac cy

theorem addOp_answers (a b : Byte) (cin : Bool) (f : Byte) :
    (addOp a b cin f).Answers f (BitVec.ofNat 8 (a.toNat + b.toNat + cin.toNat))
      (decide (a.toNat % 16 + b.toNat % 16 + cin.toNat > 0x0F)) (decide (a.toNat + b.toNat + cin.toNat > 0xFF)) := by
  obtain ⟨-, hflag⟩ := addOp_spec a b cin f
  exact ⟨rfl, flagsFrom_of_getFlag (addOp_outside a b cin f) ⟨rfl, rfl, rfl⟩
    (hflag .s) (hflag .z) (hflag .p) (hflag .ac) (hflag .cy)⟩

/-- The low eight bits of a difference of integers are the difference of bytes (R152). -/
theorem ofInt_sub_sub (a b : Byte) (n : Nat) :
    BitVec.ofInt 8 ((a.toNat : Int) - b.toNat - n) = a - b - BitVec.ofNat 8 n := by
  apply BitVec.eq_of_toNat_eq
  simp only [BitVec.toNat_ofInt, BitVec.toNat_sub, BitVec.toNat_ofNat]
  omega

/-- The carry out of bit 3 of `a + ~b + (1 - bin)` is the absence of a borrow from bit 4 (R152, decision D15). -/
theorem nibble_carry_iff_no_borrow (a b : Byte) (bin : Bool) :
    a.toNat % 16 + (~~~b).toNat % 16 + (1 - bin.toNat) > 0x0F ↔ a.toNat % 16 ≥ b.toNat % 16 + bin.toNat := by
  have hbin : bin.toNat ≤ 1 := bin.toNat_le
  rw [BitVec.toNat_not]
  omega

theorem subOp_answers (a b : Byte) (bin : Bool) (f : Byte) :
    (subOp a b bin f).Answers f (a - b - BitVec.ofNat 8 bin.toNat)
      (decide (a.toNat % 16 ≥ b.toNat % 16 + bin.toNat)) (decide (a.toNat < b.toNat + bin.toNat)) := by
  obtain ⟨hvalue, hflag⟩ := subOp_spec a b bin f
  rw [ofInt_sub_sub] at hvalue
  rw [hvalue] at hflag
  refine ⟨hvalue, flagsFrom_of_getFlag (subOp_outside a b bin f) ⟨rfl, rfl, rfl⟩ (hflag .s) (hflag .z) (hflag .p)
    ((hflag .ac).trans ?_) ((hflag .cy).trans ?_)⟩
  · exact decide_eq_decide.2 (nibble_carry_iff_no_borrow a b bin)
  · exact decide_eq_decide.2 (by omega)

/-- A subtraction without a borrow-in, as SUB and CMP make it. -/
theorem subOp_false_answers (a b f : Byte) :
    (subOp a b false f).Answers f (a - b) (decide (a.toNat % 16 ≥ b.toNat % 16)) (decide (a.toNat < b.toNat)) := by
  simpa using subOp_answers a b false f

theorem incOp_answers (v f : Byte) :
    (incOp v f).Answers f (v + 1#8) (decide (v.toNat % 16 = 15)) (f.getLsbD 0) := by
  obtain ⟨hvalue, hflag⟩ := incOp_spec v f
  exact ⟨hvalue, flagsFrom_of_getFlag (incOp_outside v f) ⟨rfl, rfl, rfl⟩
    (hflag .s) (hflag .z) (hflag .p) (hflag .ac) (hflag .cy)⟩

theorem decOp_answers (v f : Byte) :
    (decOp v f).Answers f (v - 1#8) (decide (v.toNat % 16 ≠ 0)) (f.getLsbD 0) := by
  obtain ⟨hvalue, hflag⟩ := decOp_spec v f
  exact ⟨hvalue, flagsFrom_of_getFlag (decOp_outside v f) ⟨rfl, rfl, rfl⟩
    (hflag .s) (hflag .z) (hflag .p) (hflag .ac) (hflag .cy)⟩

/-! ### The decimal adjust (R175, decision D17) -/

/-- Whether DAA adds 6. -/
def daaFixesLow (a f : Byte) : Bool := decide (a.toNat % 16 > 9) || f.getLsbD 4

/-- Whether DAA adds 0x60, on the operand before 6 was added. -/
def daaFixesHigh (a f : Byte) : Bool :=
  decide (a.toNat / 16 > 9) || f.getLsbD 0 || (decide (a.toNat / 16 ≥ 9) && decide (a.toNat % 16 > 9))

/-- The result of DAA. -/
def daaResult (a f : Byte) : Byte :=
  a + (if daaFixesLow a f then 0x06#8 else 0x00#8) + (if daaFixesHigh a f then 0x60#8 else 0x00#8)

theorem setFlag_getFlag (f : Byte) (g : Flag) : setFlag f g (getFlag f g) = f := by
  refine BitVec.eq_of_getLsbD_eq fun n _ => ?_
  rw [getLsbD_setFlag]
  split
  · next h => rw [h, getFlag]
  · rfl

/-- The model compares the high nibble after 6 was added, which carries into it exactly when the low nibble exceeds 9. -/
theorem daaFixesHigh_eq (a f : Byte) :
    (decide ((if daaFixesLow a f then a.toNat + 0x06 else a.toNat) / 16 > 9) || getFlag f .cy) = daaFixesHigh a f := by
  have hnibble : (if daaFixesLow a f then a.toNat + 0x06 else a.toNat) / 16 > 9 ↔
      a.toNat / 16 > 9 ∨ a.toNat / 16 ≥ 9 ∧ a.toNat % 16 > 9 := by
    by_cases hlow : a.toNat % 16 > 9
    · have hfix : daaFixesLow a f = true := by simp [daaFixesLow, hlow]
      rw [if_pos hfix]
      omega
    · split <;> omega
  rw [decide_eq_decide.2 hnibble, Bool.decide_or, Bool.decide_and, daaFixesHigh, Bool.or_right_comm]
  rfl

/-- A flag written under a condition is written in any case, with its old value when the condition fails. -/
theorem ite_setFlag (c : Bool) (f : Byte) (g : Flag) (v : Bool) :
    (if c then setFlag f g v else f) = setFlag f g (if c then v else getFlag f g) := by
  cases c
  · exact (setFlag_getFlag f g).symm
  · rfl

theorem nibble_add_six_carry_iff (a : Byte) : a.toNat % 16 + 6 > 0x0F ↔ a.toNat % 16 > 9 := by omega

/-- DAA writes AC when it adds 6 and CY when it adds 0x60, and keeps each otherwise. -/
theorem daaOp_eq (a f : Byte) : daaOp a f =
    { value := daaResult a f
      flags := szp (daaResult a f)
        (setFlag (setFlag f .ac (if daaFixesLow a f then decide (a.toNat % 16 > 9) else getFlag f .ac)) .cy
          (daaFixesHigh a f || getFlag f .cy)) } := by
  have hlow : (decide (a.toNat % 16 > 9) || getFlag f .ac) = daaFixesLow a f := rfl
  have hresult : BitVec.ofNat 8 (if daaFixesHigh a f then (if daaFixesLow a f then a.toNat + 0x06 else a.toNat) + 0x60
      else if daaFixesLow a f then a.toNat + 0x06 else a.toNat) = daaResult a f := by
    rw [daaResult]
    cases daaFixesLow a f <;> cases daaFixesHigh a f <;> simp [BitVec.ofNat_add]
  simp only [daaOp, hlow, daaFixesHigh_eq, hresult, nibble_add_six_carry_iff, ite_setFlag, getFlag_setFlag,
    reduceCtorEq, if_false, Bool.if_true_left, Bool.decide_eq_true]

theorem daaOp_answers (a f : Byte) :
    (daaOp a f).Answers f (daaResult a f) (if daaFixesLow a f then decide (a.toNat % 16 > 9) else f.getLsbD 4)
      (daaFixesHigh a f || f.getLsbD 0) := by
  refine ⟨by rw [daaOp_eq], flagsFrom_of_getFlag (daaOp_outside a f) ⟨rfl, rfl, rfl⟩ ?_ ?_ ?_ ?_ ?_⟩ <;>
    simp only [daaOp_eq, getFlag_szp, getFlag_setFlag] <;> rfl

/-! ### The rows of the tables of forms: byte, class and shared operation of each -/

/-- The tables of the operations on A and an operand, each with its byte at operand B. -/
def accumulatorTables : List (List (Instr × Sel) × Nat) := [
  (Claims.addForms, 0x80), (Claims.adcForms, 0x88), (Claims.subForms, 0x90), (Claims.sbbForms, 0x98),
  (Claims.anaForms, 0xA0), (Claims.xraForms, 0xA8), (Claims.oraForms, 0xB0), (Claims.cmpForms, 0xB8)]

theorem classCost_encode_accumulatorTables : ∀ table ∈ accumulatorTables, ∀ p ∈ table.1,
    Claims.classCost p.1 = (Claims.aluCycles p.2, Claims.aluCycles p.2) ∧
    encode p.1 = [BitVec.ofNat 8 (table.2 + Claims.selNum p.2)] := by
  decide

theorem classCost_encode_inrForms : ∀ p ∈ Claims.inrForms,
    Claims.classCost p.1 = (if p.2 = .m then 10 else 5, if p.2 = .m then 10 else 5) ∧
    encode p.1 = [BitVec.ofNat 8 (0x04 + 8 * Claims.selNum p.2)] := by
  decide

theorem classCost_encode_dcrForms : ∀ p ∈ Claims.dcrForms,
    Claims.classCost p.1 = (if p.2 = .m then 10 else 5, if p.2 = .m then 10 else 5) ∧
    encode p.1 = [BitVec.ofNat 8 (0x05 + 8 * Claims.selNum p.2)] := by
  decide

theorem classCost_encode_inxForms : ∀ p ∈ Claims.inxForms, Claims.classCost p.1 = (5, 5) ∧
    encode p.1 = [BitVec.ofNat 8 (0x03 + 16 * Claims.pairNum p.2)] := by
  decide

theorem classCost_encode_dcxForms : ∀ p ∈ Claims.dcxForms, Claims.classCost p.1 = (5, 5) ∧
    encode p.1 = [BitVec.ofNat 8 (0x0B + 16 * Claims.pairNum p.2)] := by
  decide

theorem classCost_encode_dadForms : ∀ p ∈ Claims.dadForms, Claims.classCost p.1 = (10, 10) ∧
    encode p.1 = [BitVec.ofNat 8 (0x09 + 16 * Claims.pairNum p.2)] := by
  decide

section
variable {p : Instr × Sel} {q : Instr × Pair} (s : State)

theorem exec_addForms (hp : p ∈ Claims.addForms) : exec p.1 s = addTo p.1.opcode 1#16 (readSel p.2 s) s := by
  fin_cases hp <;> rfl

theorem exec_adcForms (hp : p ∈ Claims.adcForms) : exec p.1 s = adcTo p.1.opcode 1#16 (readSel p.2 s) s := by
  fin_cases hp <;> rfl

theorem exec_subForms (hp : p ∈ Claims.subForms) : exec p.1 s = subFrom p.1.opcode 1#16 (readSel p.2 s) s := by
  fin_cases hp <;> rfl

theorem exec_sbbForms (hp : p ∈ Claims.sbbForms) : exec p.1 s = sbbFrom p.1.opcode 1#16 (readSel p.2 s) s := by
  fin_cases hp <;> rfl

theorem exec_cmpForms (hp : p ∈ Claims.cmpForms) : exec p.1 s = compare p.1.opcode 1#16 (readSel p.2 s) s := by
  fin_cases hp <;> rfl

theorem exec_inrForms (hp : p ∈ Claims.inrForms) : exec p.1 s = incSel p.1.opcode p.2 s := by
  fin_cases hp <;> rfl

theorem exec_dcrForms (hp : p ∈ Claims.dcrForms) : exec p.1 s = decSel p.1.opcode p.2 s := by
  fin_cases hp <;> rfl

theorem exec_inxForms (hq : q ∈ Claims.inxForms) : exec q.1 s = stepPair q.1.opcode q.2 1#16 s := by
  fin_cases hq <;> rfl

theorem exec_dcxForms (hq : q ∈ Claims.dcxForms) : exec q.1 s = stepPair q.1.opcode q.2 (-1#16) s := by
  fin_cases hq <;> rfl

theorem exec_dadForms (hq : q ∈ Claims.dadForms) : exec q.1 s = addPair q.1.opcode q.2 s := by
  fin_cases hq <;> rfl

end

/-- INR and DCR list the operands in one order. -/
theorem inrForms_dcrForms_operand (k : Fin 8) {p q : Instr × Sel} (hp : p ∈ Claims.inrForms[k.val]?)
    (hq : q ∈ Claims.dcrForms[k.val]?) : q.2 = p.2 := by
  have hmap : Claims.inrForms.map Prod.snd = Claims.dcrForms.map Prod.snd := rfl
  have hk := congrArg (·[k.val]?) hmap
  simp only [List.getElem?_map] at hk
  rw [hp, hq] at hk
  exact (Option.some.inj hk).symm

/-! ### Operations on A and an operand -/

/-- An instruction that ends with A and F replaced by the result of a computation is the operation on A that the
computation answers. -/
theorem accumulatorOp_of_exec {i : Instr} {operand : State → Byte} {bytes : List Byte} {cycles : Nat}
    {result : State → Byte → Byte} {ac cy : State → Byte → Bool} {x : State → AluResult}
    (hcost : Claims.classCost i = (cycles, cycles)) (henc : encode i = bytes)
    (hx : ∀ s, (x s).Answers s.f (result s (operand s)) (ac s (operand s)) (cy s (operand s)))
    (hexec : ∀ s, exec i s = .next (complete i.opcode (BitVec.ofNat 16 bytes.length)
      { s with a := (x s).value, f := (x s).flags })) :
    Claims.AccumulatorOp i operand bytes cycles result ac cy := by
  intro s
  obtain ⟨hvalue, hflags⟩ := hx s
  exact ⟨_, _, henc, by rw [hexec, hvalue]; rfl, hflags, charges_of_classCost hcost s⟩

/-- The rows of a table of forms, whose operand is a register or M. -/
theorem accumulatorOp_of_table {table : List (Instr × Sel) × Nat} (ht : table ∈ accumulatorTables)
    {result : State → Byte → Byte} {ac cy : State → Byte → Bool} {x : State → Byte → AluResult}
    (hx : ∀ s v, (x s v).Answers s.f (result s v) (ac s v) (cy s v))
    (hexec : ∀ p ∈ table.1, ∀ s, exec p.1 s = .next (complete p.1.opcode 1#16
      { s with a := (x s (readSel p.2 s)).value, f := (x s (readSel p.2 s)).flags })) :
    ∀ p ∈ table.1,
    Claims.AccumulatorOp p.1 (readSel p.2) [BitVec.ofNat 8 (table.2 + Claims.selNum p.2)] (Claims.aluCycles p.2)
      result ac cy := by
  intro p hp
  obtain ⟨hcost, henc⟩ := classCost_encode_accumulatorTables table ht p hp
  exact accumulatorOp_of_exec hcost henc (fun s => hx s (readSel p.2 s)) (hexec p hp)

/-! ### INR, DCR and pairs: reading back what was written -/

theorem readSel_writeSel (i : Sel) (v : Byte) (s : State) : readSel i (writeSel i v s) = v := by
  by_cases hi : i = .m
  · subst hi
    exact Memory.read_write_same s.mem s.hl v
  · exact readSel_writeSel_same hi v s

theorem readSel_complete (i : Sel) (op : Byte) (len : Word) (s : State) :
    readSel i (complete op len s) = readSel i s := by
  cases i <;> rfl

/-- The flag byte is no operand, so it may be written before or after one. -/
theorem writeSel_setF (i : Sel) (v f : Byte) (s : State) :
    writeSel i v { s with f := f } = { writeSel i v s with f := f } := by
  cases i <;> rfl

theorem readSel_incSel {op : Byte} {i : Sel} {s t : State} (h : incSel op i s = .next t) :
    readSel i t = readSel i s + 1#8 := by
  cases h
  rw [readSel_complete, readSel_writeSel]
  rfl

theorem readSel_decSel {op : Byte} {i : Sel} {s t : State} (h : decSel op i s = .next t) :
    readSel i t = readSel i s - 1#8 := by
  cases h
  rw [readSel_complete, readSel_writeSel]
  rfl

theorem readPair_writePair (i : Pair) (v : Word) (s : State) : readPair i (writePair i v s) = v := by
  cases i
  case sp => rfl
  all_goals exact word_hi8_lo8 v

theorem readPair_writePair_other {i j : Pair} (h : j ≠ i) (v : Word) (s : State) :
    readPair j (writePair i v s) = readPair j s :=
  match i, j with
  | .bc, .bc | .de, .de | .hl, .hl | .sp, .sp => absurd rfl h
  | .bc, .de | .bc, .hl | .bc, .sp | .de, .bc | .de, .hl | .de, .sp | .hl, .bc | .hl, .de | .hl, .sp
  | .sp, .bc | .sp, .de | .sp, .hl => rfl

/-- INR and DCR: an instruction that ends with the value of a computation written to an operand, and its flags to F. -/
theorem exec_operand_step {i : Instr} {s : State} {j : Sel} {x : AluResult} {r : Byte} {ac cy : Bool} {cycles : Nat}
    (hcost : Claims.classCost i = (cycles, cycles))
    (hexec : exec i s = .next (complete i.opcode 1#16 (writeSel j x.value { s with f := x.flags })))
    (hx : x.Answers s.f r ac cy) :
    ∃ f' n, exec i s = .next { writeSel j r s with f := f', pc := s.pc + 1#16, cyc := n, icount := s.icount + 1 } ∧
      Claims.FlagsFrom f' s.f r ac cy ∧ Claims.Charges s i cycles n := by
  obtain ⟨hvalue, hflags⟩ := hx
  refine ⟨_, _, ?_, hflags, charges_of_classCost hcost s⟩
  rw [hexec, complete_writeSel, writeSel_setF, hvalue]

/-- INX and DCX: an instruction that ends with a pair written. -/
theorem exec_write_pair {i : Instr} {s : State} {j : Pair} {v : Word} {cycles : Nat}
    (hcost : Claims.classCost i = (cycles, cycles))
    (hexec : exec i s = .next (complete i.opcode 1#16 (writePair j v s))) :
    ∃ n, exec i s = .next { writePair j v s with pc := s.pc + 1#16, cyc := n, icount := s.icount + 1 } ∧
      Claims.Charges s i cycles n :=
  ⟨_, by rw [hexec, complete_writePair], charges_of_classCost hcost s⟩

/-- CMP and CPI: the flags of the subtraction and nothing else, Z exactly when A equals the operand. -/
theorem exec_compare {i : Instr} {s : State} {len : Word} {v : Byte} {cycles : Nat}
    (hcost : Claims.classCost i = (cycles, cycles)) (hexec : exec i s = compare i.opcode len v s) :
    ∃ f' n, exec i s = .next { s with f := f', pc := s.pc + len, cyc := n, icount := s.icount + 1 } ∧
      Claims.FlagsFrom f' s.f (s.a - v) (decide (s.a.toNat % 16 ≥ v.toNat % 16)) (decide (s.a.toNat < v.toNat)) ∧
      (f'.getLsbD 6 = true ↔ s.a = v) ∧ Claims.Charges s i cycles n := by
  obtain ⟨-, hflags⟩ := subOp_false_answers s.a v s.f
  refine ⟨(subOp s.a v false s.f).flags, _, hexec, hflags, ?_, charges_of_classCost hcost s⟩
  obtain ⟨-, hz, -⟩ := hflags
  rw [hz, decide_eq_true_iff]
  exact sub_eq_zero

/-! ### The obligations on arithmetic -/

/-- Settles O34: ADDOP without a carry-in. -/
theorem addResultAndFlags : Obligations.AddResultAndFlags :=
  ⟨accumulatorOp_of_table (table := (Claims.addForms, 0x80)) (by simp [accumulatorTables])
      (fun s v => addOp_answers s.a v false s.f) fun _ hp s => exec_addForms s hp,
    fun d => accumulatorOp_of_exec rfl rfl (fun s => addOp_answers s.a d false s.f) (exec_adi d)⟩

/-- Settles O35: ADDOP with the carry-in CY. -/
theorem addWithCarryResultAndFlags : Obligations.AddWithCarryResultAndFlags :=
  ⟨accumulatorOp_of_table (table := (Claims.adcForms, 0x88)) (by simp [accumulatorTables])
      (fun s v => addOp_answers s.a v (getFlag s.f .cy) s.f) fun _ hp s => exec_adcForms s hp,
    fun d => accumulatorOp_of_exec rfl rfl (fun s => addOp_answers s.a d (getFlag s.f .cy) s.f) (exec_aci d)⟩

/-- Settles O36: SUBOP without a borrow-in. -/
theorem subtractResultAndFlags : Obligations.SubtractResultAndFlags :=
  ⟨accumulatorOp_of_table (table := (Claims.subForms, 0x90)) (by simp [accumulatorTables])
      (fun s v => subOp_false_answers s.a v s.f) fun _ hp s => exec_subForms s hp,
    fun d => accumulatorOp_of_exec rfl rfl (fun s => subOp_false_answers s.a d s.f) (exec_sui d)⟩

/-- Settles O37: SUBOP with the borrow-in CY. -/
theorem subtractWithBorrowResultAndFlags : Obligations.SubtractWithBorrowResultAndFlags :=
  ⟨accumulatorOp_of_table (table := (Claims.sbbForms, 0x98)) (by simp [accumulatorTables])
      (fun s v => subOp_answers s.a v (getFlag s.f .cy) s.f) fun _ hp s => exec_sbbForms s hp,
    fun d => accumulatorOp_of_exec rfl rfl (fun s => subOp_answers s.a d (getFlag s.f .cy) s.f) (exec_sbi d)⟩

/-- Settles O38: the flags of SUBOP without a borrow-in, and a difference is 0 for equal operands only. -/
theorem compareFlags : Obligations.CompareFlags := by
  refine ⟨fun p hp s => ?_, fun d s => ?_⟩
  · obtain ⟨hcost, henc⟩ :=
      classCost_encode_accumulatorTables (Claims.cmpForms, 0xB8) (by simp [accumulatorTables]) p hp
    obtain ⟨f', n, hnext, hrest⟩ := exec_compare hcost (exec_cmpForms s hp)
    exact ⟨f', n, henc, hnext, hrest⟩
  · obtain ⟨f', n, hnext, hrest⟩ := exec_compare rfl (exec_cpi d s)
    exact ⟨f', n, rfl, hnext, hrest⟩

/-- Settles O39: both write what their computation answers to the operand and to F. -/
theorem incrementDecrementResultAndFlags : Obligations.IncrementDecrementResultAndFlags := by
  refine ⟨fun p hp s => ?_, fun p hp s => ?_⟩
  · obtain ⟨hcost, henc⟩ := classCost_encode_inrForms p hp
    obtain ⟨f', n, hnext⟩ := exec_operand_step hcost (exec_inrForms s hp) (incOp_answers (readSel p.2 s) s.f)
    exact ⟨f', n, henc, hnext⟩
  · obtain ⟨hcost, henc⟩ := classCost_encode_dcrForms p hp
    obtain ⟨f', n, hnext⟩ := exec_operand_step hcost (exec_dcrForms s hp) (decOp_answers (readSel p.2 s) s.f)
    exact ⟨f', n, henc, hnext⟩

/-- Settles O40: the second instruction reads the operand the first one wrote. -/
theorem incrementDecrementInverse : Obligations.IncrementDecrementInverse := by
  intro k s t u p hp q hq
  have hoperand := inrForms_dcrForms_operand k hp hq
  have hinr := fun s => exec_inrForms s (List.mem_of_getElem? hp)
  have hdcr := fun s => exec_dcrForms s (List.mem_of_getElem? hq)
  rw [hoperand] at hdcr ⊢
  refine ⟨fun hst htu => ?_, fun hst htu => ?_⟩
  · rw [readSel_decSel ((hdcr t).symm.trans htu), readSel_incSel ((hinr s).symm.trans hst), add_sub_cancel_right]
  · rw [readSel_incSel ((hinr t).symm.trans htu), readSel_decSel ((hdcr s).symm.trans hst), sub_add_cancel]

/-- Settles O41: both write the pair, and the accessors of the pairs read back and stay apart. -/
theorem pairIncrementDecrement : Obligations.PairIncrementDecrement := by
  refine ⟨fun p hp s => ?_, fun p hp s => ?_, fun i v s => ⟨readPair_writePair i v s, fun j hj => ?_⟩⟩
  · obtain ⟨hcost, henc⟩ := classCost_encode_inxForms p hp
    obtain ⟨n, hnext⟩ := exec_write_pair hcost (exec_inxForms s hp)
    exact ⟨n, henc, hnext⟩
  · obtain ⟨hcost, henc⟩ := classCost_encode_dcxForms p hp
    obtain ⟨n, hnext⟩ := exec_write_pair hcost (exec_dcxForms s hp)
    rw [BitVec.sub_eq_add_neg]
    exact ⟨n, henc, hnext⟩
  · exact readPair_writePair_other hj v s

/-- Settles O42: HL takes the sum of words, and CY alone is set in F. -/
theorem pairAdd : Obligations.PairAdd := by
  intro p hp s
  obtain ⟨hcost, henc⟩ := classCost_encode_dadForms p hp
  exact ⟨setFlag s.f .cy (dadCarry s.hl (readPair p.2 s)), _, henc, exec_dadForms s hp,
    getFlag_setFlag s.f .cy .cy _, setFlag_outside (m := 0x01#8) rfl s.f _, charges_of_classCost hcost s⟩

/-- Settles O43: the usual formulation is the one `daaOp_answers` states. -/
theorem decimalAdjust : Obligations.DecimalAdjust := by
  intro s
  obtain ⟨hvalue, hflags⟩ := daaOp_answers s.a s.f
  refine ⟨_, _, rfl, ?_, hflags, charges_of_classCost (i := .daa) rfl s⟩
  rw [exec_daa, onAcc, hvalue]
  rfl

end Sys2Proof.Machine

/-!
SUPPORT. The logical family, said once (42_logical.md R190 to R206): what each computation answers, the bits of a rotated
byte, and what CMA, CMC and STC write; then the statements of the family.
-/

namespace Sys2Proof.Machine

/-! ### What AND, exclusive OR and OR answer (R191, R194, R197, decision D16) -/

theorem andOp_answers (a b f : Byte) :
    (andOp a b f).Answers f (a &&& b) (a.getLsbD 3 || b.getLsbD 3) false := by
  obtain ⟨hvalue, hflag⟩ := andOp_spec a b f
  exact ⟨hvalue, flagsFrom_of_getFlag (andOp_outside a b f) ⟨rfl, rfl, rfl⟩
    (hflag .s) (hflag .z) (hflag .p) ((hflag .ac).trans BitVec.getLsbD_or) (hflag .cy)⟩

theorem xorOp_answers (a b f : Byte) : (xorOp a b f).Answers f (a ^^^ b) false false := by
  obtain ⟨hvalue, hflag⟩ := xorOp_spec a b f
  exact ⟨hvalue, flagsFrom_of_getFlag (xorOp_outside a b f) ⟨rfl, rfl, rfl⟩
    (hflag .s) (hflag .z) (hflag .p) (hflag .ac) (hflag .cy)⟩

theorem orOp_answers (a b f : Byte) : (orOp a b f).Answers f (a ||| b) false false := by
  obtain ⟨hvalue, hflag⟩ := orOp_spec a b f
  exact ⟨hvalue, flagsFrom_of_getFlag (orOp_outside a b f) ⟨rfl, rfl, rfl⟩
    (hflag .s) (hflag .z) (hflag .p) (hflag .ac) (hflag .cy)⟩

/-! ### The rows of the tables of forms: the shared operation of each -/

section
variable {p : Instr × Sel} (s : State)

theorem exec_anaForms (hp : p ∈ Claims.anaForms) : exec p.1 s = andWith p.1.opcode 1#16 (readSel p.2 s) s := by
  fin_cases hp <;> rfl

theorem exec_xraForms (hp : p ∈ Claims.xraForms) : exec p.1 s = xorWith p.1.opcode 1#16 (readSel p.2 s) s := by
  fin_cases hp <;> rfl

theorem exec_oraForms (hp : p ∈ Claims.oraForms) : exec p.1 s = orWith p.1.opcode 1#16 (readSel p.2 s) s := by
  fin_cases hp <;> rfl

end

/-! ### Rotates (R201 to R204) -/

/-- One place to the left, `c` coming in at bit 0: the result of RLC and RAL. -/
theorem getLsbD_rotate_left (a : Byte) (c : Bool) {k : Nat} (hk : k < 8) :
    (a <<< 1 ||| (BitVec.ofBool c).setWidth 8).getLsbD k = if k = 0 then c else a.getLsbD (k - 1) := by
  cases k with
  | zero => simp
  | succ n => simp [hk, Nat.lt_of_succ_lt hk]

/-- One place to the right, `c` coming in at bit 7: the result of RRC and RAR. -/
theorem getLsbD_rotate_right (a : Byte) (c : Bool) {k : Nat} (hk : k < 8) :
    (a >>> 1 ||| (BitVec.ofBool c).setWidth 8 <<< 7).getLsbD k = if k = 7 then c else a.getLsbD (k + 1) := by
  by_cases h7 : k = 7
  · simp [h7]
  · simp [h7, show k < 7 by omega, Nat.add_comm 1 k]

/-- An instruction that replaces A and F by a computation that writes CY alone in F: bits `bit` of A, and `out` in CY. -/
theorem exec_rotate {i : Instr} {op : Byte} {g : Byte → Byte → AluResult} {s : State} {bit : Nat → Bool} {out : Bool}
    (hcost : Claims.classCost i = (4, 4)) (henc : encode i = [op]) (hexec : exec i s = onAcc i.opcode g s)
    (hbit : ∀ k, k < 8 → (g s.a s.f).value.getLsbD k = bit k) (hflags : (g s.a s.f).flags = setFlag s.f .cy out) :
    ∃ a' f' n, encode i = [op] ∧
      exec i s = .next { s with a := a', f := f', pc := s.pc + 1#16, cyc := n, icount := s.icount + 1 } ∧
      (∀ k, k < 8 → a'.getLsbD k = bit k) ∧ f'.getLsbD 0 = out ∧ f' &&& 0xFE#8 = s.f &&& 0xFE#8 ∧
      Claims.Charges s i 4 n := by
  refine ⟨_, _, _, henc, hexec, hbit, ?_, ?_, charges_of_classCost hcost s⟩
  · rw [hflags]
    exact getFlag_setFlag s.f .cy .cy out
  · rw [hflags]
    exact setFlag_outside (m := 0x01#8) rfl s.f out

/-! ### CMA, CMC and STC (R200, R205, R206) -/

/-- No place of 0xFF minus a byte borrows, so the difference is the complement. -/
theorem not_eq_ff_sub (v : Byte) : ~~~v = 0xFF#8 - v := by bv_omega

/-- Inverting CY is exclusive OR with its mask. -/
theorem setFlag_cy_not (f : Byte) : setFlag f .cy (!getFlag f .cy) = f ^^^ 0x01#8 := by
  refine BitVec.eq_of_getLsbD_eq fun n hn => ?_
  rw [getLsbD_setFlag, BitVec.getLsbD_xor]
  by_cases h0 : n = 0
  · simp [h0, Flag.bit, getFlag]
  · simp [h0, Flag.bit]

theorem exec_cma (s : State) : exec .cma s = .next (complete 0x2F#8 1#16 { s with a := 0xFF#8 - s.a }) := by
  rw [← not_eq_ff_sub]
  rfl

theorem exec_cmc (s : State) : exec .cmc s = .next (complete 0x3F#8 1#16 { s with f := s.f ^^^ 0x01#8 }) := by
  rw [← setFlag_cy_not]
  rfl

theorem exec_stc (s : State) : exec .stc s = .next (complete 0x37#8 1#16 { s with f := s.f ||| 0x01#8 }) := rfl

/-! ### The obligations on logic and rotates -/

/-- Settles O44: each form is the operation on A that its computation answers. -/
theorem logicalResultAndFlags : Obligations.LogicalResultAndFlags := by
  refine ⟨?_, fun d => ?_, ?_, fun d => ?_, ?_, fun d => ?_⟩
  · exact accumulatorOp_of_table (table := (Claims.anaForms, 0xA0)) (by simp [accumulatorTables])
      (fun s v => andOp_answers s.a v s.f) fun _ hp s => exec_anaForms s hp
  · exact accumulatorOp_of_exec rfl rfl (fun s => andOp_answers s.a d s.f) (exec_ani d)
  · exact accumulatorOp_of_table (table := (Claims.xraForms, 0xA8)) (by simp [accumulatorTables])
      (fun s v => xorOp_answers s.a v s.f) fun _ hp s => exec_xraForms s hp
  · exact accumulatorOp_of_exec rfl rfl (fun s => xorOp_answers s.a d s.f) (exec_xri d)
  · exact accumulatorOp_of_table (table := (Claims.oraForms, 0xB0)) (by simp [accumulatorTables])
      (fun s v => orOp_answers s.a v s.f) fun _ hp s => exec_oraForms s hp
  · exact accumulatorOp_of_exec rfl rfl (fun s => orOp_answers s.a d s.f) (exec_ori d)

/-- Settles O46: RLC and RRC bring in the bit rotated out, RAL and RAR bring in CY. -/
theorem rotateBits : Obligations.RotateBits := fun s =>
  ⟨exec_rotate rfl rfl (exec_rlc s) (fun _ hk => getLsbD_rotate_left s.a (s.a.getLsbD 7) hk) rfl,
    exec_rotate rfl rfl (exec_rrc s) (fun _ hk => getLsbD_rotate_right s.a (s.a.getLsbD 0) hk) rfl,
    exec_rotate rfl rfl (exec_ral s) (fun _ hk => getLsbD_rotate_left s.a (getFlag s.f .cy) hk) rfl,
    exec_rotate rfl rfl (exec_rar s) (fun _ hk => getLsbD_rotate_right s.a (getFlag s.f .cy) hk) rfl⟩

/-- Settles O45: CMA writes A alone, and CMC and STC write CY alone in F. -/
theorem complementAndCarryOps : Obligations.ComplementAndCarryOps := fun s =>
  ⟨⟨_, rfl, exec_cma s, charges_of_classCost (i := .cma) rfl s⟩,
    ⟨_, rfl, exec_cmc s, charges_of_classCost (i := .cmc) rfl s⟩,
    _, rfl, exec_stc s, charges_of_classCost (i := .stc) rfl s⟩

end Sys2Proof.Machine

/-!
SUPPORT. The branch family, said once (43_branch.md R220 to R229): when a condition holds, what a jump with a condition
is charged, and where the two kinds of jump end; then the statement of the family.
-/

namespace Sys2Proof.Machine

/-! ### Conditions and the charge of an instruction that has one -/

/-- The model's condition on the named flags is the one on the bits of F (10_state.md R30, R38). -/
theorem condHolds_eq_conditionTrue (cc : Cond) (f : Byte) : condHolds cc f = Claims.conditionTrue cc f := by
  cases cc <;> rfl

/-- Taken or not, an instruction is charged that entry of its opcode, which is its class's under the default table. -/
theorem chargesTaken_of_classCost {i : Instr} {untakenCycles takenCycles : Nat}
    (h : Claims.classCost i = (untakenCycles, takenCycles)) (taken : Bool) (s : State) :
    Claims.ChargesTaken s i taken (if taken then takenCycles else untakenCycles)
      (s.cyc + cycleCost s.config i.opcode taken) :=
  ⟨rfl, fun hd => by rw [cycleCost_opcode_of_default hd, h]⟩

/-! ### Where a jump ends: at its operand or past it, or in a fault (R220, R221, R331) -/

/-- A conditional jump replaces PC by its operand or passes it, and changes nothing else but the two counters. -/
theorem jumpIf_next (op : Byte) (cc : Cond) (a : Word) {s : State} (hpc : s.pc ≠ 0xFFFE#16) :
    jumpIf op cc a s = .next { s with
      pc := if Claims.conditionTrue cc s.f then a else s.pc + 3#16
      cyc := s.cyc + cycleCost s.config op (Claims.conditionTrue cc s.f)
      icount := s.icount + 1 } := by
  rw [jumpIf_eq, if_neg hpc, condHolds_eq_conditionTrue]
  cases Claims.conditionTrue cc s.f with
  | true => rfl
  | false => rfl

/-- An instruction that is a jump goes to the operand, charged the taken entry of its opcode. -/
theorem exec_jump_next {i : Instr} {a : Word} {s : State} {cycles : Nat} (hexec : exec i s = jump i.opcode a s)
    (hcost : Claims.classCost i = (cycles, cycles)) (hpc : s.pc ≠ 0xFFFE#16) :
    ∃ n, exec i s = .next { s with pc := a, cyc := n, icount := s.icount + 1 } ∧ Claims.Charges s i cycles n :=
  ⟨_, hexec.trans ((jump_eq ..).trans (if_neg hpc)), true, chargesTaken_of_classCost hcost true s⟩

theorem jump_outOfRange (op : Byte) (a : Word) {s : State} (hpc : s.pc = 0xFFFE#16) :
    jump op a s = Claims.raisesOutOfRange s :=
  (jump_eq op a s).trans (if_pos hpc)

theorem jumpIf_outOfRange (op : Byte) (cc : Cond) (a : Word) {s : State} (hpc : s.pc = 0xFFFE#16) :
    jumpIf op cc a s = Claims.raisesOutOfRange s :=
  (jumpIf_eq op cc a s).trans (if_pos hpc)

/-! ### The rows of the table of forms: byte, class and shared operation of each -/

theorem classCost_encode_jumpForms {a : Word} {p : Instr × Cond} (hp : p ∈ Claims.jumpForms a) :
    Claims.classCost p.1 = (10, 10) ∧
    encode p.1 = [BitVec.ofNat 8 (0xC2 + 8 * Claims.condNum p.2), lo8 a, hi8 a] := by
  fin_cases hp <;> exact ⟨rfl, rfl⟩

theorem exec_jumpForms {a : Word} {p : Instr × Cond} (hp : p ∈ Claims.jumpForms a) (s : State) :
    exec p.1 s = jumpIf p.1.opcode p.2 a s := by
  fin_cases hp <;> rfl

/-! ### The obligation on jumps -/

/-- Settles O47: every form is `jump` or `jumpIf` at its own opcode byte, and both raise on an operand out of
range before they look at the condition. -/
theorem jumpTargets : Obligations.JumpTargets := by
  intro a s
  refine ⟨fun hpc => ⟨?_, fun p hp => ?_⟩, fun hpc => ⟨?_, ?_, fun p hp => ?_⟩⟩
  · rw [List.forall_mem_cons, List.forall_mem_singleton]
    obtain ⟨n, hjmp⟩ := exec_jump_next (exec_jmp a s) rfl hpc
    obtain ⟨m, hjmpCB⟩ := exec_jump_next (exec_jmpCB a s) rfl hpc
    exact ⟨⟨n, rfl, hjmp⟩, m, rfl, hjmpCB⟩
  · obtain ⟨hcost, henc⟩ := classCost_encode_jumpForms hp
    have hcharge := chargesTaken_of_classCost hcost (Claims.conditionTrue p.2 s.f) s
    rw [ite_self] at hcharge
    exact ⟨_, henc, (exec_jumpForms hp s).trans (jumpIf_next _ _ _ hpc), hcharge⟩
  · exact (exec_jmp a s).trans (jump_outOfRange _ _ hpc)
  · exact (exec_jmpCB a s).trans (jump_outOfRange _ _ hpc)
  · exact (exec_jumpForms hp s).trans (jumpIf_outOfRange _ _ _ hpc)

end Sys2Proof.Machine

/-!
SUPPORT. The call and return family, said once (44_call_return.md R240 to R262): the state after a call and after a
return, what each is charged, and when the conditional forms transfer control; then the statements of the family.
-/

namespace Sys2Proof.Machine

/-! ### The state after a call, a return, and a condition that does not hold (R240, R241, R250) -/

/-- An instruction that pushes the address after its `len` bytes and goes to `a` is a call, charged the taken entry of
its opcode. -/
theorem calls_of_exec {i : Instr} {s : State} {len a : Word} {untakenCycles takenCycles : Nat}
    (hcost : Claims.classCost i = (untakenCycles, takenCycles))
    (hexec : exec i s = .next (charge i.opcode true { pushed (s.pc + len) s with pc := a })) :
    ∃ t, Claims.Calls i s t len a ∧ Claims.ChargesTaken s i true takenCycles t.cyc :=
  ⟨_, ⟨hexec, fun x => pushed_read (s.pc + len) x s, rfl⟩, chargesTaken_of_classCost hcost true s⟩

/-- An instruction that pops the word at SP into PC changes nothing else but the two counters, and is charged the taken
entry of its opcode. -/
theorem returns_of_exec {i : Instr} {s : State} {untakenCycles takenCycles : Nat}
    (hcost : Claims.classCost i = (untakenCycles, takenCycles))
    (hexec : exec i s = .next (charge i.opcode true { s with sp := s.sp + 2#16, pc := wordAt s.mem s.sp })) :
    ∃ n, exec i s = .next { s with
        pc := word (s.mem.read (s.sp + 1#16)) (s.mem.read s.sp), sp := s.sp + 2#16, cyc := n, icount := s.icount + 1 } ∧
      Claims.ChargesTaken s i true takenCycles n :=
  ⟨_, hexec, chargesTaken_of_classCost hcost true s⟩

/-- An instruction that passes its `len` bytes because its condition does not hold is charged the other entry. -/
theorem passes_of_exec {i : Instr} {s : State} {len : Word} {untakenCycles takenCycles : Nat}
    (hcost : Claims.classCost i = (untakenCycles, takenCycles))
    (hexec : exec i s = .next (complete i.opcode len s)) :
    ∃ n, exec i s = .next { s with pc := s.pc + len, cyc := n, icount := s.icount + 1 } ∧
      Claims.ChargesTaken s i false untakenCycles n :=
  ⟨_, hexec, chargesTaken_of_classCost hcost false s⟩

/-! ### CALL and RET: their next state, and out of range (R241, R250, R331) -/

section
variable {i : Instr} {s : State} {cycles : Nat}

/-- An instruction that is a call pushes the address after its operand and goes to the operand. -/
theorem exec_call_next {a : Word} (hcost : Claims.classCost i = (cycles, cycles))
    (hexec : exec i s = call i.opcode a s) (hpc : s.pc ≠ 0xFFFE#16) (hsp : s.sp ≠ 0x0001#16) :
    ∃ t, Claims.Calls i s t 3#16 a ∧ Claims.Charges s i cycles t.cyc := by
  rw [call_eq, if_neg (not_or.2 ⟨hpc, hsp⟩)] at hexec
  obtain ⟨t, hcalls, hcharge⟩ := calls_of_exec hcost hexec
  exact ⟨t, hcalls, true, hcharge⟩

theorem call_outOfRange (op : Byte) (a : Word) (h : s.pc = 0xFFFE#16 ∨ s.sp = 0x0001#16) :
    call op a s = Claims.raisesOutOfRange s :=
  (call_eq op a s).trans (if_pos h)

/-- An instruction that is a return goes to the word at SP. -/
theorem exec_ret_next (hcost : Claims.classCost i = (cycles, cycles)) (hexec : exec i s = ret i.opcode s)
    (hsp : s.sp ≠ 0xFFFF#16) :
    ∃ n, exec i s = .next { s with
        pc := word (s.mem.read (s.sp + 1#16)) (s.mem.read s.sp), sp := s.sp + 2#16, cyc := n, icount := s.icount + 1 } ∧
      Claims.Charges s i cycles n := by
  rw [ret_eq, if_neg hsp] at hexec
  obtain ⟨n, hnext, hcharge⟩ := returns_of_exec hcost hexec
  exact ⟨n, hnext, true, hcharge⟩

theorem ret_outOfRange (op : Byte) (hsp : s.sp = 0xFFFF#16) : ret op s = Claims.raisesOutOfRange s :=
  (ret_eq op s).trans (if_pos hsp)

end

/-! ### The conditional forms: taken, not taken, out of range (R242 to R249, R251 to R258, R331) -/

section
variable (op : Byte) {cc : Cond} {s : State}

theorem callIf_taken (a : Word) (hpc : s.pc ≠ 0xFFFE#16) (hcond : Claims.conditionTrue cc s.f = true)
    (hsp : s.sp ≠ 0x0001#16) :
    callIf op cc a s = .next (charge op true { pushed (s.pc + 3#16) s with pc := a }) := by
  rw [callIf_eq, condHolds_eq_conditionTrue, if_neg hpc, if_pos hcond, if_neg hsp]

theorem callIf_not_taken (a : Word) (hpc : s.pc ≠ 0xFFFE#16) (hcond : Claims.conditionTrue cc s.f = false) :
    callIf op cc a s = .next (complete op 3#16 s) := by
  rw [callIf_eq, condHolds_eq_conditionTrue, if_neg hpc, hcond, if_neg Bool.false_ne_true]

/-- The operand is fetched before the condition is looked at, and the stack is touched only when it holds. -/
theorem callIf_outOfRange (a : Word)
    (h : s.pc = 0xFFFE#16 ∨ Claims.conditionTrue cc s.f = true ∧ s.sp = 0x0001#16) :
    callIf op cc a s = Claims.raisesOutOfRange s := by
  rw [callIf_eq, condHolds_eq_conditionTrue]
  by_cases hpc : s.pc = 0xFFFE#16
  · exact if_pos hpc
  · obtain ⟨hcond, hsp⟩ := h.resolve_left hpc
    rw [if_neg hpc, if_pos hcond, if_pos hsp]
    rfl

theorem retIf_taken (hcond : Claims.conditionTrue cc s.f = true) : retIf op cc s = ret op s := by
  rw [retIf_eq, condHolds_eq_conditionTrue, if_pos hcond, ret_eq]

theorem retIf_not_taken (hcond : Claims.conditionTrue cc s.f = false) :
    retIf op cc s = .next (complete op 1#16 s) := by
  rw [retIf_eq, condHolds_eq_conditionTrue, hcond, if_neg Bool.false_ne_true]

end

/-! ### The rows of the tables of forms: byte, class and shared operation of each -/

theorem classCost_encode_callForms {a : Word} {p : Instr × Cond} (hp : p ∈ Claims.callForms a) :
    Claims.classCost p.1 = (11, 17) ∧
    encode p.1 = [BitVec.ofNat 8 (0xC4 + 8 * Claims.condNum p.2), lo8 a, hi8 a] := by
  fin_cases hp <;> exact ⟨rfl, rfl⟩

theorem exec_callForms {a : Word} {p : Instr × Cond} (hp : p ∈ Claims.callForms a) (s : State) :
    exec p.1 s = callIf p.1.opcode p.2 a s := by
  fin_cases hp <;> rfl

theorem classCost_encode_returnForms : ∀ p ∈ Claims.returnForms, Claims.classCost p.1 = (5, 11) ∧
    encode p.1 = [BitVec.ofNat 8 (0xC0 + 8 * Claims.condNum p.2)] := by
  decide

theorem exec_returnForms {p : Instr × Cond} (hp : p ∈ Claims.returnForms) (s : State) :
    exec p.1 s = retIf p.1.opcode p.2 s := by
  fin_cases hp <;> rfl

theorem classCost_encode_rstForms : ∀ p ∈ Claims.rstForms, Claims.classCost p.1 = (11, 11) ∧
    encode p.1 = [BitVec.ofNat 8 (0xC7 + 8 * p.2)] := by
  decide

theorem exec_rstForms {p : Instr × Nat} (hp : p ∈ Claims.rstForms) (s : State) :
    exec p.1 s = restart p.1.opcode (BitVec.ofNat 16 (8 * p.2)) s := by
  fin_cases hp <;> rfl

/-! ### The obligations on calls and returns -/

/-- Settles O48: CALL and its synonyms are `call` at their own opcode byte. -/
theorem callPushesReturnAddress : Obligations.CallPushesReturnAddress := by
  intro a s
  simp only [List.forall_mem_cons]
  exact ⟨⟨rfl, exec_call_next rfl (exec_call a s), call_outOfRange _ a⟩,
    ⟨rfl, exec_call_next rfl (exec_callDD a s), call_outOfRange _ a⟩,
    ⟨rfl, exec_call_next rfl (exec_callED a s), call_outOfRange _ a⟩,
    ⟨rfl, exec_call_next rfl (exec_callFD a s), call_outOfRange _ a⟩, nofun⟩

/-- Settles O49: every form is `callIf` at its own opcode byte. -/
theorem conditionalCall : Obligations.ConditionalCall := by
  intro a s p hp
  obtain ⟨hcost, henc⟩ := classCost_encode_callForms hp
  have hexec := exec_callForms hp s
  refine ⟨henc, fun hpc hcond hsp => ?_, fun hpc hcond => ?_, fun h => ?_⟩
  · exact calls_of_exec hcost (hexec.trans (callIf_taken _ a hpc hcond hsp))
  · exact passes_of_exec hcost (hexec.trans (callIf_not_taken _ a hpc hcond))
  · exact hexec.trans (callIf_outOfRange _ a h)

/-- Settles O50: RET and its synonym are `ret`, and so is every conditional form whose condition holds. -/
theorem returnPopsProgramCounter : Obligations.ReturnPopsProgramCounter := by
  intro s
  refine ⟨?_, fun p hp => ?_⟩
  · rw [List.forall_mem_cons, List.forall_mem_singleton]
    exact ⟨⟨rfl, exec_ret_next rfl (exec_ret s), ret_outOfRange _⟩,
      rfl, exec_ret_next rfl (exec_retD9 s), ret_outOfRange _⟩
  · obtain ⟨hcost, henc⟩ := classCost_encode_returnForms p hp
    have hexec := exec_returnForms hp s
    refine ⟨henc, fun hcond hsp => ?_, fun hcond => ?_, fun hcond hsp => ?_⟩
    · exact returns_of_exec hcost (hexec.trans ((retIf_taken _ hcond).trans ((ret_eq ..).trans (if_neg hsp))))
    · exact passes_of_exec hcost (hexec.trans (retIf_not_taken _ hcond))
    · exact hexec.trans ((retIf_taken _ hcond).trans (ret_outOfRange _ hsp))

/-- Settles O51: PCHL only loads PC, and every RST is a call of one byte to a fixed address. -/
theorem indirectJumpAndRestart : Obligations.IndirectJumpAndRestart := by
  intro s
  refine ⟨⟨_, rfl, rfl, charges_of_classCost (i := .pchl) rfl s⟩, fun p hp => ?_⟩
  obtain ⟨hcost, henc⟩ := classCost_encode_rstForms p hp
  have hexec := (exec_rstForms hp s).trans (restart_eq ..)
  refine ⟨henc, fun hsp => ?_, fun hsp => hexec.trans (if_pos hsp)⟩
  obtain ⟨t, hcalls, hcharge⟩ := calls_of_exec hcost (hexec.trans (if_neg hsp))
  exact ⟨t, hcalls, true, hcharge⟩

end Sys2Proof.Machine

/-!
SUPPORT. The stack family, said once (45_stack.md R270 to R280): the word of a pair and its two bytes, the rows of each
table of forms, and the pop that follows a push; then the statements of the family.
-/

namespace Sys2Proof.Machine

/-! ### The pairs of the PSW class (10_state.md R23 to R25) -/

theorem readStackPair_eq_word (i : StackPair) (s : State) :
    readStackPair i s = word (Claims.stackPairBytes i s).1 (Claims.stackPairBytes i s).2 := by
  cases i <;> rfl

theorem writeStackPair_readStackPair (i : StackPair) (s : State) : writeStackPair i (readStackPair i s) s = s := by
  rw [readStackPair_eq_word]
  cases i <;> simp only [writeStackPair, Claims.stackPairBytes, hi8_word, lo8_word]

/-- Writing a pair moves neither PC nor a counter, so these end as they do from the state before it. -/
theorem complete_writeStackPair (op : Byte) (len : Word) (i : StackPair) (v : Word) (s : State) :
    complete op len (writeStackPair i v s) = { writeStackPair i v s with
      pc := s.pc + len, cyc := s.cyc + cycleCost s.config op false, icount := s.icount + 1 } := by
  simp [complete, charge, advance]

/-! ### The rows of the tables of forms: byte, class and shared operation of each -/

theorem classCost_encode_pushForms : ∀ p ∈ Claims.pushForms, Claims.classCost p.1 = (11, 11) ∧
    encode p.1 = [BitVec.ofNat 8 (0xC5 + 16 * Claims.stackPairNum p.2)] := by
  decide

theorem classCost_encode_popForms : ∀ p ∈ Claims.popForms, Claims.classCost p.1 = (10, 10) ∧
    encode p.1 = [BitVec.ofNat 8 (0xC1 + 16 * Claims.stackPairNum p.2)] := by
  decide

theorem exec_pushForms {p : Instr × StackPair} (hp : p ∈ Claims.pushForms) (s : State) :
    exec p.1 s = pushPair p.1.opcode p.2 s := by
  fin_cases hp <;> rfl

theorem exec_popForms {p : Instr × StackPair} (hp : p ∈ Claims.popForms) (s : State) :
    exec p.1 s = popPair p.1.opcode p.2 s := by
  fin_cases hp <;> rfl

/-- PUSH and POP list the pairs in one order. -/
theorem pushForms_popForms_pair : ∀ k : Fin 4, ∀ p ∈ Claims.pushForms[k.val]?, ∀ q ∈ Claims.popForms[k.val]?,
    q.2 = p.2 := by
  decide

/-! ### The pop that follows a push (R280) -/

theorem readStackPair_complete_pushed (op : Byte) (len : Word) (i : StackPair) (v : Word) (s : State) :
    readStackPair i (complete op len (pushed v s)) = readStackPair i s := by
  cases i <;> rfl

/-- A pop of the word that its pair already holds leaves the pair as it is. -/
theorem popPair_of_wordAt_eq (op : Byte) {i : StackPair} {s : State} (hsp : s.sp ≠ 0xFFFF#16)
    (hword : wordAt s.mem s.sp = readStackPair i s) :
    popPair op i s = .next (complete op 1#16 { s with sp := s.sp + 2#16 }) := by
  have hpair : readStackPair i s = readStackPair i { s with sp := s.sp + 2#16 } := by cases i <;> rfl
  rw [popPair_eq, if_neg hsp, hword, hpair, writeStackPair_readStackPair]

/-- The pop finds the word just pushed, so only memory, PC and the two counters differ from the state before the push. -/
theorem popPair_complete_pushed (pushOp popOp : Byte) (i : StackPair) {s : State} (hsp : s.sp ≠ 1#16) :
    popPair popOp i (complete pushOp 1#16 (pushed (readStackPair i s) s)) = .next { s with
      mem := (pushed (readStackPair i s) s).mem
      pc := s.pc + 1#16 + 1#16
      cyc := s.cyc + cycleCost s.config pushOp false + cycleCost s.config popOp false
      icount := s.icount + 1 + 1 } := by
  have htop : s.sp - 2#16 ≠ 0xFFFF#16 := mt (sub_two_eq_top s.sp).1 hsp
  have hback : s.sp - 2#16 + 2#16 = s.sp := BitVec.sub_add_cancel s.sp 2#16
  have hword : wordAt (pushed (readStackPair i s) s).mem (s.sp - 2#16) = readStackPair i s :=
    wordAt_write16 s.mem (s.sp - 2#16) _
  rw [popPair_of_wordAt_eq popOp (s := complete pushOp 1#16 (pushed (readStackPair i s) s)) htop
    (hword.trans (readStackPair_complete_pushed ..).symm)]
  simp only [complete, charge, advance, pushed, hback]

/-! ### The obligations on the stack -/

/-- Settles O52: every form is the push of its pair's word, which is the word of the pair's two bytes. -/
theorem pushStoresPair : Obligations.PushStoresPair := by
  intro p hp s
  obtain ⟨hcost, henc⟩ := classCost_encode_pushForms p hp
  have hexec := (exec_pushForms hp s).trans (pushPair_eq ..)
  rw [← readStackPair_eq_word]
  exact ⟨henc, fun hsp => ⟨_, hexec.trans (if_neg hsp), fun x => pushed_read _ x s, rfl, charges_of_classCost hcost s⟩,
    fun hsp => hexec.trans (if_pos hsp)⟩

/-- Settles O53: every form writes its pair with the word at SP, whose bytes are those read. -/
theorem popLoadsPair : Obligations.PopLoadsPair := by
  intro p hp s
  obtain ⟨hcost, henc⟩ := classCost_encode_popForms p hp
  have hexec := (exec_popForms hp s).trans (popPair_eq ..)
  rw [complete_writeStackPair] at hexec
  refine ⟨henc, fun hsp => ⟨_, charges_of_classCost hcost s, ?_⟩, fun hsp => hexec.trans (if_pos hsp)⟩
  rw [hexec, if_neg hsp]
  refine ⟨?_, ?_, ?_, ?_⟩ <;> intro hpair <;> simp only [hpair, writeStackPair, wordAt, hi8_word, lo8_word]

/-- Settles O54: both forms name one pair, and the pop finds the word the push stored. -/
theorem pushPopRoundTrip : Obligations.PushPopRoundTrip := by
  intro k s _ u _ hsp p hp q hq hst htu
  have hpush := (exec_pushForms (List.mem_of_getElem? hp) s).trans ((pushPair_eq ..).trans (if_neg hsp))
  obtain rfl := Host.Outcome.next.inj (hst.symm.trans hpush)
  rw [exec_popForms (List.mem_of_getElem? hq), pushForms_popForms_pair k p hp q hq,
    popPair_complete_pushed _ _ _ hsp] at htu
  obtain rfl := Host.Outcome.next.inj htu
  rw [← readStackPair_eq_word]
  exact ⟨rfl, fun x => pushed_read _ x s⟩

end Sys2Proof.Machine

/-!
SUPPORT. The input and output family, said once (46_io.md R290 to R292): what each assigned port reads and what a write
to it changes (60_exceptions.md R350 to R353); then the statements of the family.
-/

namespace Sys2Proof.Machine

/-! ### Distinct ports (60_exceptions.md R350, R351) -/

theorem inputPortsOk_iff {c : Config} : c.inputPortsOk = true ↔
    c.portSw1 ≠ c.portSw2 ∧ c.portSw1 ≠ c.portShiftRead ∧ c.portSw2 ≠ c.portShiftRead := by
  simp [Config.inputPortsOk, and_assoc]

theorem outputPortsOk_iff {c : Config} : c.outputPortsOk = true ↔
    c.portShiftAmt ≠ c.portShiftData ∧ c.portShiftAmt ≠ c.portAck ∧ c.portShiftData ≠ c.portAck := by
  simp [Config.outputPortsOk, and_assoc]

/-! ### What a port reads (60_exceptions.md R350) -/

/-- The shift right by `8 - SHIFT_AMT` as the place each bit is read from (decision D18). -/
theorem getLsbD_shiftWindow (s : State) {k : Nat} (hk : k < 8) :
    (shiftWindow s).getLsbD k = (word s.shiftHi s.shiftLo).getLsbD (k + 8 - s.shiftAmt.toNat) := by
  have hplace : 8 - s.shiftAmt.toNat + k = k + 8 - s.shiftAmt.toNat := by omega
  simp only [shiftWindow, BitVec.getLsbD_setWidth, BitVec.getLsbD_ushiftRight, hk, decide_true, Bool.true_and, hplace]

section
variable {s : State}

theorem portRead_sw1 : portRead s.config.portSw1 s = some s.sw1 := if_pos rfl

theorem portRead_sw2 (h : s.config.inputPortsOk = true) : portRead s.config.portSw2 s = some s.sw2 := by
  obtain ⟨h12, -, -⟩ := inputPortsOk_iff.1 h
  rw [portRead, if_neg h12.symm, if_pos rfl]

theorem portRead_shiftRead (h : s.config.inputPortsOk = true) :
    portRead s.config.portShiftRead s = some (shiftWindow s) := by
  obtain ⟨-, h1, h2⟩ := inputPortsOk_iff.1 h
  rw [portRead, if_neg h1.symm, if_neg h2.symm, if_pos rfl]

theorem portRead_unassigned {p : Byte} (h1 : p ≠ s.config.portSw1) (h2 : p ≠ s.config.portSw2)
    (h3 : p ≠ s.config.portShiftRead) : portRead p s = none := by
  rw [portRead, if_neg h1, if_neg h2, if_neg h3]

end

/-! ### What a write to a port changes (60_exceptions.md R351 to R353) -/

section
variable {s : State} (v : Byte)

theorem portWrite_shiftAmt :
    portWrite s.config.portShiftAmt v s = { s with shiftAmt := BitVec.ofNat 3 (v.toNat % 8) } := by
  have hlow : v.setWidth 3 = BitVec.ofNat 3 (v.toNat % 8) := by bv_omega
  rw [portWrite, if_pos rfl, hlow]

theorem portWrite_shiftData (h : s.config.outputPortsOk = true) :
    portWrite s.config.portShiftData v s = { s with shiftLo := s.shiftHi, shiftHi := v } := by
  obtain ⟨hamt, -, -⟩ := outputPortsOk_iff.1 h
  rw [portWrite, if_neg hamt.symm, if_pos rfl]

theorem portWrite_ack (h : s.config.outputPortsOk = true) :
    portWrite s.config.portAck v s = { s with ack := v } := by
  obtain ⟨-, hamt, hdata⟩ := outputPortsOk_iff.1 h
  rw [portWrite, if_neg hamt.symm, if_neg hdata.symm, if_pos rfl]

theorem portWrite_unassigned {p : Byte} (h1 : p ≠ s.config.portShiftAmt) (h2 : p ≠ s.config.portShiftData)
    (h3 : p ≠ s.config.portAck) : portWrite p v s = s := by
  rw [portWrite, if_neg h1, if_neg h2, if_neg h3]

end

/-- Writing a port moves neither PC nor a counter, so these end as they do from the state before it. -/
theorem complete_portWrite (op : Byte) (len : Word) (p v : Byte) (s : State) :
    complete op len (portWrite p v s) = { portWrite p v s with
      pc := s.pc + len, cyc := s.cyc + cycleCost s.config op false, icount := s.icount + 1 } := by
  simp [complete, charge, advance]

/-! ### IN and OUT: the shared operation of each (R291, R292) -/

/-- IN writes A, with the value it had when no input port is assigned to the operand (decision D27). -/
theorem exec_inp (d : Byte) (s : State) :
    exec (.inp d) s = .next (complete 0xDB#8 2#16 (writeSel .a ((portRead d s).getD s.a) s)) := by
  change execInp d s = _
  unfold execInp
  cases portRead d s <;> rfl

/-- OUT ends in what the write of A to its port answers, sound ports included (R353). -/
theorem exec_outp (d : Byte) (s : State) :
    exec (.outp d) s = .next { portWrite d s.a s with
      pc := s.pc + 2#16, cyc := s.cyc + cycleCost s.config 0xD3#8 false, icount := s.icount + 1 } :=
  congrArg Host.Outcome.next (complete_portWrite 0xD3#8 2#16 d s.a s)

/-! ### The obligations on input and output -/

/-- Settles O55: IN writes A with what its port reads, and distinct ports keep the four cases apart. -/
theorem inputFromPort : Obligations.InputFromPort := by
  intro d s hports
  obtain ⟨n, hexec, hcharge⟩ := exec_write_operand .a (exec_inp d s) rfl
  refine ⟨(portRead d s).getD s.a, n, rfl, hexec, ?_, ?_, ?_, ?_, hcharge⟩
  · rintro rfl
    rw [portRead_sw1, Option.getD_some]
  · rintro rfl
    rw [portRead_sw2 hports, Option.getD_some]
  · rintro rfl k hk
    rw [portRead_shiftRead hports, Option.getD_some, getLsbD_shiftWindow s hk]
  · intro h1 h2 h3
    rw [portRead_unassigned h1 h2 h3, Option.getD_none]

/-- Settles O56: OUT ends in what the write to its port answers, and distinct ports keep the four cases apart. -/
theorem outputToPort : Obligations.OutputToPort := by
  intro d s hports
  refine ⟨_, rfl, exec_outp d s, ?_, ?_, ?_, ?_, charges_of_classCost rfl s⟩
  · rintro rfl
    rw [portWrite_shiftAmt]
  · rintro rfl
    rw [portWrite_shiftData s.a hports]
  · rintro rfl
    rw [portWrite_ack s.a hports]
  · intro h1 h2 h3
    rw [portWrite_unassigned s.a h1 h2 h3]

end Sys2Proof.Machine

/-!
SUPPORT. The interrupt and machine control family, said once (47_interrupt_and_machine_control.md R310 to R312): what EI
and DI write to F, and the rows of the table of NOP; then the statement of the family.
-/

namespace Sys2Proof.Machine

/-! ### EI and DI: IE as a bit of F (R310, R311, decision D5) -/

theorem setFlag_ie_true (f : Byte) : setFlag f .ie true = f ||| 0x20#8 := rfl

theorem setFlag_ie_false (f : Byte) : setFlag f .ie false = f &&& 0xDF#8 := rfl

theorem exec_ei (s : State) : exec .ei s = .next (complete 0xFB#8 1#16 { s with f := s.f ||| 0x20#8 }) := by
  rw [← setFlag_ie_true]
  rfl

theorem exec_di (s : State) : exec .di s = .next (complete 0xF3#8 1#16 { s with f := s.f &&& 0xDF#8 }) := by
  rw [← setFlag_ie_false]
  rfl

/-! ### The rows of the table of NOP: byte, class and shared operation of each (R312) -/

theorem classCost_encode_nopForms : ∀ p ∈ Claims.nopForms, Claims.classCost p.1 = (4, 4) ∧ encode p.1 = [p.2] := by
  decide

theorem exec_nopForms {p : Instr × Byte} (hp : p ∈ Claims.nopForms) (s : State) :
    exec p.1 s = noOperation p.1.opcode s := by
  fin_cases hp <;> rfl

/-! ### The obligation on interrupt and machine control -/

/-- Settles O57: EI and DI write IE alone in F, and every form of NOP completes the state it is given. -/
theorem machineControl : Obligations.MachineControl := by
  intro s
  refine ⟨⟨_, rfl, exec_ei s, charges_of_classCost (i := .ei) rfl s⟩,
    ⟨_, rfl, exec_di s, charges_of_classCost (i := .di) rfl s⟩, fun p hp => ?_⟩
  obtain ⟨hcost, henc⟩ := classCost_encode_nopForms p hp
  exact ⟨_, henc, exec_nopForms hp s, charges_of_classCost hcost s⟩

end Sys2Proof.Machine

/-!
SUPPORT. How an instruction concludes, said once (60_exceptions.md R331, R333, R337): when it raises the out-of-range
fault, which cost it is charged otherwise, and that neither the cost table nor the switch pairs still to come bear on
it; then the statements on faults and charges.
-/

namespace Sys2Proof.Machine

/-! ### What no instruction reads, except to be charged (70_reset_and_hazards.md R403, R405; log 2, log 7) -/

/-- A cost table, and the switch pairs still to come with the number already drawn: the fields of the state that no
instruction reads, but for the cost it is charged. -/
structure Unread where
  cycCost : List (Nat × Nat)
  inputs : List (Byte × Byte)
  draws : Nat

/-- `s` with the cost table and the switch pairs of `x` in place of its own. -/
def Unread.put (x : Unread) (s : State) : State :=
  { s with config := { s.config with cycCost := x.cycCost }, inputs := x.inputs, draws := x.draws }

/-- A write to an output port looks at the port numbers alone. -/
theorem Unread.put_portWrite (x : Unread) (p v : Byte) (s : State) :
    x.put (portWrite p v s) = portWrite p v (x.put s) := by
  simp only [portWrite, apply_ite x.put]
  rfl

/-- Charging `x.put u` is charging `u` when the cost tables agree. -/
theorem Unread.put_charge {x : Unread} {u : State} (hx : u.config.cycCost = x.cycCost) (op : Byte) (taken : Bool) :
    charge op taken (x.put u) = x.put (charge op taken u) := by
  have hcost : cycleCost (x.put u).config op taken = cycleCost u.config op taken := by
    simp only [cycleCost, put, hx]
  simp only [charge, hcost]
  rfl

/-! ### How an instruction concludes -/

/-- The work of an instruction before it is charged: `u` has the latch, the counters and the parameters of `s`. -/
structure Uncharged (s u : State) : Prop where
  fault : u.fault = s.fault := by rfl
  cyc : u.cyc = s.cyc := by rfl
  icount : u.icount = s.icount := by rfl
  config : u.config = s.config := by rfl

theorem Uncharged.portWrite (p v : Byte) (s : State) : Uncharged s (portWrite p v s) where
  fault := by simp
  cyc := by simp
  icount := by simp
  config := by simp

/-- An outcome `o` of an instruction with opcode byte `op` from `s`, and its outcomes `o'` from `s` with other unread
fields: when `raises` it raises the out-of-range fault, and else it is charged, for its condition if it has one. -/
def Concludes (op : Byte) (s : State) (raises : Prop) (held : Option Bool) (o : Out) (o' : Unread → Out) : Prop :=
  (raises ∧ o = outOfRange s ∧ ∀ x, o' x = outOfRange (x.put s)) ∨
  (¬raises ∧ ∃ u taken, Uncharged s u ∧ (∀ b, held = some b → taken = b) ∧
    o = .next (charge op taken u) ∧ ∀ x, o' x = .next (charge op taken (x.put u)))

namespace Concludes

variable {op : Byte} {s u : State} {raises : Prop} {held : Option Bool} {o p : Out} {o' p' : Unread → Out}

theorem charged {taken : Bool} (hu : Uncharged s u) (hheld : ∀ b, held = some b → taken = b := by simp) :
    Concludes op s False held (.next (charge op taken u)) fun x => .next (charge op taken (x.put u)) :=
  .inr ⟨not_false, u, taken, hu, hheld, rfl, fun _ => rfl⟩

/-- An instruction without a condition that ends by passing its `len` bytes. -/
theorem completed {len : Word} (hu : Uncharged s u) :
    Concludes op s False none (.next (complete op len u)) fun x => .next (complete op len (x.put u)) :=
  charged (u := advance len u) ⟨hu.fault, hu.cyc, hu.icount, hu.config⟩

theorem raisesOr {c : Prop} [Decidable c] (h : Concludes op s raises held o o') :
    Concludes op s (c ∨ raises) held (if c then outOfRange s else o)
      fun x => if c then outOfRange (x.put s) else o' x := by
  by_cases hc : c
  · simp only [if_pos hc]
    exact .inl ⟨.inl hc, rfl, fun _ => rfl⟩
  · simpa only [if_neg hc, eq_false hc, false_or, if_false] using h

theorem raisesIf {c : Prop} [Decidable c] (h : Concludes op s False held o o') :
    Concludes op s c held (if c then outOfRange s else o) fun x => if c then outOfRange (x.put s) else o' x := by
  simpa only [or_false] using h.raisesOr (c := c)

/-- An instruction that looks at its condition `b`, and raises only when it holds. -/
theorem branch {b : Bool} {r : Prop} (ht : Concludes op s raises (some true) o o')
    (hf : Concludes op s False (some false) p p') (hr : r ↔ b = true ∧ raises := by simp) :
    Concludes op s r (some b) (if b then o else p) fun x => if b then o' x else p' x := by
  rw [propext hr]
  cases b with
  | true => simpa using ht
  | false => simpa using hf

/-- Passing `len` bytes because the condition does not hold. -/
theorem passed {len : Word} :
    Concludes op s False (some false) (.next (complete op len s)) fun x => .next (complete op len (x.put s)) :=
  charged (u := advance len s) {}

theorem loadPair {i : Pair} {v : Word} :
    Concludes op s (s.pc = 0xFFFE#16) none (loadPair op i v s) fun x => loadPair op i v (x.put s) := by
  simp only [loadPair_eq]
  cases i <;> exact .raisesIf (.completed {})

theorem jump {a : Word} :
    Concludes op s (s.pc = 0xFFFE#16) none (jump op a s) fun x => jump op a (x.put s) := by
  simp only [jump_eq]
  exact .raisesIf (.charged (u := { s with pc := a }) {})

theorem jumpIf {cc : Cond} {a : Word} :
    Concludes op s (s.pc = 0xFFFE#16) (some (condHolds cc s.f)) (jumpIf op cc a s)
      fun x => jumpIf op cc a (x.put s) := by
  simp only [jumpIf_eq]
  exact .raisesIf (.branch (.charged (u := { s with pc := a }) {}) .passed)

theorem call {a : Word} :
    Concludes op s (s.pc = 0xFFFE#16 ∨ s.sp = 1#16) none (call op a s) fun x => call op a (x.put s) := by
  simp only [call_eq]
  exact .raisesIf (.charged (u := { pushed (s.pc + 3#16) s with pc := a }) {})

theorem callIf {cc : Cond} {a : Word} :
    Concludes op s (s.pc = 0xFFFE#16 ∨ condHolds cc s.f = true ∧ s.sp = 1#16) (some (condHolds cc s.f))
      (callIf op cc a s) fun x => callIf op cc a (x.put s) := by
  simp only [callIf_eq]
  exact .raisesOr (.branch (.raisesIf (.charged (u := { pushed (s.pc + 3#16) s with pc := a }) {})) .passed)

theorem ret : Concludes op s (s.sp = 0xFFFF#16) none (ret op s) fun x => ret op (x.put s) := by
  simp only [ret_eq]
  exact .raisesIf (.charged (u := { s with sp := s.sp + 2#16, pc := wordAt s.mem s.sp }) {})

theorem retIf {cc : Cond} :
    Concludes op s (condHolds cc s.f = true ∧ s.sp = 0xFFFF#16) (some (condHolds cc s.f)) (retIf op cc s)
      fun x => retIf op cc (x.put s) := by
  simp only [retIf_eq]
  exact .branch (.raisesIf (.charged (u := { s with sp := s.sp + 2#16, pc := wordAt s.mem s.sp }) {})) .passed

theorem restart {a : Word} :
    Concludes op s (s.sp = 1#16) none (restart op a s) fun x => restart op a (x.put s) := by
  simp only [restart_eq]
  exact .raisesIf (.charged (u := { pushed (s.pc + 1#16) s with pc := a }) {})

theorem pushPair {i : StackPair} :
    Concludes op s (s.sp = 1#16) none (pushPair op i s) fun x => pushPair op i (x.put s) := by
  simp only [pushPair_eq]
  cases i <;> exact .raisesIf (.completed (u := pushed _ s) {})

theorem popPair {i : StackPair} :
    Concludes op s (s.sp = 0xFFFF#16) none (popPair op i s) fun x => popPair op i (x.put s) := by
  simp only [popPair_eq]
  cases i <;> exact .raisesIf (.completed {})

theorem stepPair {i : Pair} {delta : Word} :
    Concludes op s False none (stepPair op i delta s) fun x => stepPair op i delta (x.put s) := by
  cases i <;> exact .completed {}

theorem lda {a : Word} : Concludes 0x3A#8 s (s.pc = 0xFFFE#16) none (execLda a s) fun x => execLda a (x.put s) := by
  simp only [execLda_eq]
  exact .raisesIf (.completed {})

theorem sta {a : Word} : Concludes 0x32#8 s (s.pc = 0xFFFE#16) none (execSta a s) fun x => execSta a (x.put s) := by
  simp only [execSta_eq]
  exact .raisesIf (.completed {})

theorem lhld {a : Word} :
    Concludes 0x2A#8 s (s.pc = 0xFFFE#16 ∨ a = 0xFFFF#16) none (execLhld a s) fun x => execLhld a (x.put s) := by
  simp only [execLhld_eq]
  exact .raisesIf (.completed {})

theorem shld {a : Word} :
    Concludes 0x22#8 s (s.pc = 0xFFFE#16 ∨ a = 0xFFFF#16) none (execShld a s) fun x => execShld a (x.put s) := by
  simp only [execShld_eq]
  exact .raisesIf (.completed {})

theorem xthl : Concludes 0xE3#8 s (s.sp = 0xFFFF#16) none (execXthl s) fun x => execXthl (x.put s) := by
  simp only [execXthl_eq]
  exact .raisesIf (.completed {})

theorem onAcc {g : Byte → Byte → AluResult} :
    Concludes op s False none (onAcc op g s) fun x => onAcc op g (x.put s) :=
  .completed {}

theorem input {d : Byte} : Concludes 0xDB#8 s False none (exec (.inp d) s) fun x => exec (.inp d) (x.put s) := by
  simp only [exec_inp]
  exact .completed {}

theorem output {d : Byte} : Concludes 0xD3#8 s False none (exec (.outp d) s) fun x => exec (.outp d) (x.put s) := by
  have h := completed (op := 0xD3#8) (len := 2#16) (.portWrite d s.a s)
  simp only [Unread.put_portWrite] at h
  exact h

end Concludes

/-- Every instruction but byte 0x76 raises in the cases of the table of R331 and is charged in all others, whatever the
unread fields hold: the one case split over the instructions that the statements on faults and costs share. -/
theorem exec_concludes (i : Instr) (s : State) (hi : i ≠ .unassigned76) :
    Concludes i.opcode s (Claims.outOfRangeWhen i s) (Claims.conditionHeld i s) (exec i s)
      fun x => exec i (x.put s) := by
  cases i
  case unassigned76 => exact absurd rfl hi
  case lxiB | lxiD | lxiH | lxiSP => exact .loadPair
  case lda => exact .lda
  case sta => exact .sta
  case lhld => exact .lhld
  case shld => exact .shld
  case xthl => exact .xthl
  case jmp | jmpCB => exact .jump
  case jnz | jz | jnc | jc | jpo | jpe | jp | jm => exact .jumpIf
  case call | callDD | callED | callFD => exact .call
  case cnz | cz | cnc | cc | cpo | cpe | cp | cm => exact .callIf
  case ret | retD9 => exact .ret
  case rnz | rz | rnc | rc | rpo | rpe | rp | rm => exact .retIf
  case rst0 | rst1 | rst2 | rst3 | rst4 | rst5 | rst6 | rst7 => exact .restart
  case pushB | pushD | pushH | pushPSW => exact .pushPair
  case popB | popD | popH | popPSW => exact .popPair
  case inp => exact .input
  case outp => exact .output
  case pchl => exact .charged (u := { s with pc := s.hl }) {} nofun
  case inxB | dcxB | inxD | dcxD | inxH | dcxH | inxSP | dcxSP => exact .stepPair
  case daa | rlc | rrc | ral | rar => exact .onAcc
  all_goals exact .completed {}

/-! ### The next state of any instruction (47_interrupt_and_machine_control.md R313, 60_exceptions.md R335) -/

/-- Byte 0x76 has a next state only while it is unassigned: the decode fault (R313). -/
theorem execUnassigned76_eq (s : State) :
    execUnassigned76 s = if 0x76#8 ∈ s.config.unassignedOpcodes then .next (raise (.decodeFault s.pc 0x76#8) s)
      else .refused .hltUnspecified := by
  simp only [execUnassigned76, List.contains_iff_mem]

theorem exec_unassigned76_next {s t : State} (h : exec .unassigned76 s = .next t) :
    0x76#8 ∈ s.config.unassignedOpcodes ∧ t = raise (.decodeFault s.pc 0x76#8) s := by
  change execUnassigned76 s = .next t at h
  rw [execUnassigned76_eq] at h
  split at h
  · next hmem => exact ⟨hmem, by cases h; rfl⟩
  · cases h

/-- A next state is `s` with a fault raised, or a state charged for the instruction, for its condition if it has one;
and from `s` with other unread fields the instruction ends likewise. -/
theorem exec_next {i : Instr} {s t : State} (h : exec i s = .next t) :
    (∃ f, t = raise f s ∧ ∀ x : Unread, exec i (x.put s) = .next (raise f (x.put s))) ∨
    ∃ u taken, Uncharged s u ∧ (∀ b, Claims.conditionHeld i s = some b → taken = b) ∧
      t = charge i.opcode taken u ∧ ∀ x : Unread, exec i (x.put s) = .next (charge i.opcode taken (x.put u)) := by
  by_cases hi : i = .unassigned76
  · subst hi
    obtain ⟨hmem, rfl⟩ := exec_unassigned76_next h
    exact .inl ⟨_, rfl, fun x => (execUnassigned76_eq (x.put s)).trans (if_pos hmem)⟩
  · obtain ⟨-, hs, hput⟩ | ⟨-, u, taken, hu, hheld, hs, hput⟩ := exec_concludes i s hi
    · exact .inl ⟨_, by cases h.symm.trans hs; rfl, hput⟩
    · exact .inr ⟨u, taken, hu, hheld, by cases h.symm.trans hs; rfl, hput⟩

/-- Every instruction but byte 0x76 answers a next state, with the latch it had or the out-of-range fault (R335). -/
theorem exec_is_next {i : Instr} (s : State) (hi : i ≠ .unassigned76) :
    ∃ t, exec i s = .next t ∧ (t.fault = s.fault ∨ t.fault = some (.outOfRange 0xFFFF#16)) := by
  obtain ⟨-, hexec, -⟩ | ⟨-, u, taken, hu, -, hexec, -⟩ := exec_concludes i s hi
  · exact ⟨_, hexec, .inr rfl⟩
  · exact ⟨_, hexec, .inl hu.fault⟩

/-- The instructions of the table of R331 raise in its cases (60_exceptions.md R331). -/
theorem exec_of_outOfRangeWhen {i : Instr} {s : State} (h : Claims.outOfRangeWhen i s) : exec i s = outOfRange s := by
  have hi : i ≠ .unassigned76 := by
    rintro rfl
    exact h
  obtain ⟨-, hexec, -⟩ | ⟨hr, -⟩ := exec_concludes i s hi
  · exact hexec
  · exact absurd h hr

/-- An out-of-range fault that was not latched before is one of the table's, since an instruction that completes keeps
the latch and byte 0x76 raises another fault. -/
theorem outOfRangeWhen_of_fault {i : Instr} {s t : State} {a : Word} (hs : s.fault = none) (h : exec i s = .next t)
    (hf : t.fault = some (.outOfRange a)) : Claims.outOfRangeWhen i s ∧ a = 0xFFFF#16 := by
  by_cases hi : i = .unassigned76
  · subst hi
    obtain ⟨-, rfl⟩ := exec_unassigned76_next h
    cases hf
  · obtain ⟨hr, hexec, -⟩ | ⟨-, u, taken, hu, -, hexec, -⟩ := exec_concludes i s hi <;> cases h.symm.trans hexec
    · cases hf
      exact ⟨hr, rfl⟩
    · rw [charge_fault, hu.fault, hs] at hf
      cases hf

/-! ### The obligations on faults, charges and costs -/

/-- Settles O7: an instruction that completes keeps the latch, so a latched one was raised. -/
theorem faultingInstructionWritesNothing : Obligations.FaultingInstructionWritesNothing := by
  intro i s t f hs h hf
  obtain ⟨g, rfl, -⟩ | ⟨u, taken, hu, -, rfl, -⟩ := exec_next h
  · cases hf
    rfl
  · rw [charge_fault, hu.fault, hs] at hf
    cases hf

/-- Settles O8: the case split over the instructions, read in both directions. -/
theorem outOfRangeExactlyByTable : Obligations.OutOfRangeExactlyByTable := fun _ _ hs =>
  ⟨⟨fun ⟨_, _, h, hf⟩ => (outOfRangeWhen_of_fault hs h hf).1, fun hr => ⟨_, _, exec_of_outOfRangeWhen hr, rfl⟩⟩,
    fun _ _ h hf => (outOfRangeWhen_of_fault hs h hf).2⟩

/-- Settles O10: an instruction that ends with the latch clear was charged, for the condition it had on entry. -/
theorem completedInstructionIsCharged : Obligations.CompletedInstructionIsCharged := by
  intro i s t _ h hf
  obtain ⟨f, rfl, -⟩ | ⟨u, taken, hu, hheld, rfl, -⟩ := exec_next h
  · cases hf
  · have hcyc : (charge i.opcode taken u).cyc = s.cyc + cycleCost s.config i.opcode taken := by
      rw [charge_cyc, hu.cyc, hu.config]
    refine ⟨congrArg (· + 1) hu.icount, ⟨taken, hcyc⟩, fun held hc => ?_⟩
    rw [hcyc, hheld held hc]

/-- Settles O12: the same work is charged from either table, and a fault charges nothing. -/
theorem costsAffectOnlyCycleCounter : Obligations.CostsAffectOnlyCycleCounter := by
  intro i s t table h
  obtain ⟨-, -, -, -, hinputs, hdraws, -, -⟩ := portAndControlFrame i s t h
  obtain ⟨f, rfl, hput⟩ | ⟨u, taken, -, -, rfl, hput⟩ := exec_next h
  · exact ⟨s.cyc, hput ⟨table, s.inputs, s.draws⟩⟩
  · have hcharge := hput ⟨table, s.inputs, s.draws⟩
    refine ⟨(charge i.opcode taken (Unread.put ⟨table, s.inputs, s.draws⟩ u)).cyc, hcharge.trans ?_⟩
    rw [← hinputs, ← hdraws]
    rfl

end Sys2Proof.Machine

/-!
SUPPORT. The interrupt check in a step, said once (60_exceptions.md R337 to R345): what a dispatch of each phase leaves,
which checks dispatch, and that only an END dispatch looks at the host's switch pairs; then the statements on the step.
-/

namespace Sys2Proof

/-! ### The instruction a fetch and the decoder read from the same bytes (30_encoding.md R92, R100, R101) -/

/-- The byte read is the opcode of the instruction decoded from it, whatever bytes follow (30_encoding.md R100). -/
theorem opcode_decodeBytes (op b2 b3 : Byte) : (decodeBytes op b2 b3).opcode = op := by
  rw [Instr.opcode, encode_decodeBytes]
  obtain h | h | h := opLength_cases op <;> rw [h] <;> rfl

theorem decodeBytes_ne_unassigned76 {op : Byte} (h : op ≠ 0x76#8) (b2 b3 : Byte) :
    decodeBytes op b2 b3 ≠ .unassigned76 := fun heq =>
  h ((opcode_decodeBytes op b2 b3).symm.trans (congrArg Instr.opcode heq))

theorem encode_injective {i j : Instr} (h : encode i = encode j) : i = j := by
  have hi := roundTrip i []
  rw [h, roundTrip j []] at hi
  cases hi
  rfl

/-- The decoder ignores the bytes after those of the format, so it reads from three bytes what the fetch does (R92). -/
theorem decode_three_bytes {op b2 b3 : Byte} {i : Instr} {rest : List Byte} (h : decode [op, b2, b3] = .ok (i, rest)) :
    i = decodeBytes op b2 b3 := by
  obtain ⟨op', c2, c3, rfl, hbytes⟩ := decode_ok h
  have hop : op = op' := by
    obtain hlen | hlen | hlen := opLength_cases op' <;> rw [hlen] at hbytes <;> exact (List.cons.inj hbytes).1
  have hlength : ([op', c2, c3].take (opLength op')).length = opLength op' := by
    obtain hlen | hlen | hlen := opLength_cases op' <;> rw [hlen] <;> rfl
  subst hop
  refine encode_injective ?_
  rw [encode_decodeBytes, encode_decodeBytes, hbytes, List.take_left' hlength]

end Sys2Proof

namespace Sys2Proof.Machine

/-! ### The step after its check (60_exceptions.md R337) -/

theorem step_of_check_ok {s t : State} (hf : s.fault = none) (hwf : s.config.wf = true)
    (hc : interruptCheck s = .ok t) : step s = runInstruction t := by
  simp only [step, hf, hwf, hc, if_true]

theorem step_of_check_error {s : State} {f : FatalFault} (hf : s.fault = none) (hwf : s.config.wf = true)
    (hc : interruptCheck s = .error f) : step s = .next (raise f s) := by
  simp only [step, hf, hwf, hc, if_true]

theorem interruptCheck_config {s t : State} (h : interruptCheck s = .ok t) : t.config = s.config := by
  obtain ⟨_, rfl⟩ | ⟨_, _, rfl⟩ | ⟨_, _, _, rfl⟩ := interruptCheck_ok h
  · rfl
  · rfl
  · rw [dispatched_config]

theorem runInstruction_of_fetch_ok {s : State} {i : Instr} (h : fetch s = .ok i) : runInstruction s = exec i s := by
  simp only [runInstruction, h]

theorem runInstruction_of_fetch_error {s : State} {f : FatalFault} (h : fetch s = .error f) :
    runInstruction s = .next (raise f s) := by
  simp only [runInstruction, h]

/-- Fetching and running an instruction always answers a next state while 0x76 is unassigned: then no fetched byte is
0x76. -/
theorem runInstruction_is_next {s : State} (h : 0x76#8 ∈ s.config.unassignedOpcodes) :
    ∃ t, runInstruction s = .next t := by
  by_cases hop : s.mem.read s.pc ∈ s.config.unassignedOpcodes
  · exact ⟨_, runInstruction_of_fetch_error (fetch_of_unassigned hop)⟩
  · rw [runInstruction_of_fetch_ok (fetch_of_assigned hop)]
    have hbyte : s.mem.read s.pc ≠ 0x76#8 := fun heq => hop (heq ▸ h)
    obtain ⟨t, hexec, -⟩ := exec_is_next s (decodeBytes_ne_unassigned76 hbyte _ _)
    exact ⟨t, hexec⟩

/-! ### A dispatch of each phase (R340, R343) -/

/-- The state after a dispatch to phase `p`, before the side effect of END. -/
def vectored (s : State) (p : Phase) : State := { pushed s.pc s with last := p, pc := vector s.config p }

theorem Phase.eq_endPhase {p : Phase} (h : p ≠ .midPhase) : p = .endPhase := by
  cases p with
  | midPhase => exact absurd rfl h
  | endPhase => rfl

theorem dispatched_of_end {s : State} (h : s.last = .endPhase) : dispatched s = vectored s .midPhase := by
  simp only [dispatched, h]
  rfl

theorem dispatched_of_mid {s : State} (h : s.last = .midPhase) :
    dispatched s = endSideEffect (vectored s .endPhase) := by
  simp only [dispatched, h]
  rfl

theorem dispatched_mem (s : State) : (dispatched s).mem = (pushed s.pc s).mem := by
  obtain ⟨-, -, -, -, -, -, -, -, -, -, -, -, hmem, -⟩ := dispatched_frame s
  exact hmem

theorem dispatched_last (s : State) : (dispatched s).last = s.last.other := by
  cases h : s.last with
  | midPhase => rw [dispatched_of_mid h]; rfl
  | endPhase => rw [dispatched_of_end h]; rfl

/-- The side effect hands over one frame, the bytes of the video range in order (R343, R61). -/
theorem endSideEffect_frame (s : State) :
    ∃ frame, (endSideEffect s).frames = frame :: s.frames ∧ frame.length = s.config.vramSize ∧
      ∀ k, k < s.config.vramSize →
        frame[k]? = some ((endSideEffect s).mem.read (s.config.vramBase + BitVec.ofNat 16 k)) :=
  ⟨videoFrame s, rfl, by simp [videoFrame], fun k hk => by simp [videoFrame, hk]⟩

/-! ### The check (R338) -/

theorem interruptCheck_of_disabled {s : State} (hc : s.cyc > s.config.cycleBudget) (hi : s.ie = false) :
    interruptCheck s = .ok { s with cyc := s.cyc - s.config.cycleBudget } := by
  rw [interruptCheck_eq, if_pos hc, hi, if_neg Bool.false_ne_true]

theorem interruptCheck_of_enabled {s : State} (hc : s.cyc > s.config.cycleBudget) (hi : s.ie = true) :
    interruptCheck s = if s.sp = 1#16 then .error (.outOfRange 0xFFFF#16)
      else .ok (dispatched { s with cyc := s.cyc - s.config.cycleBudget }) := by
  rw [interruptCheck_eq, if_pos hc, if_pos hi]

/-- When the check of a step dispatches (R338). -/
abbrev Dispatches (s : State) : Prop := s.cyc > s.config.cycleBudget ∧ s.ie = true ∧ s.sp ≠ 0x0001#16

/-- What the host supplies and receives, which END dispatches alone change (R343, R400). -/
def SameExchange (s t : State) : Prop :=
  t.sw1 = s.sw1 ∧ t.sw2 = s.sw2 ∧ t.inputs = s.inputs ∧ t.draws = s.draws ∧ t.frames = s.frames

/-- The check latches the other phase exactly when it dispatches, and exchanges something with the host only in an END
dispatch (R340, R343). -/
theorem interruptCheck_last {s t : State} (h : interruptCheck s = .ok t) :
    (t.last = if Dispatches s then s.last.other else s.last) ∧
    (¬(s.last = .midPhase ∧ t.last = .endPhase) → SameExchange s t) := by
  obtain ⟨hc, rfl⟩ | ⟨_, hi, rfl⟩ | ⟨hc, hi, hsp, rfl⟩ := interruptCheck_ok h
  · exact ⟨(if_neg fun ⟨hlt, _, _⟩ => Nat.not_lt.2 hc hlt).symm, fun _ => ⟨rfl, rfl, rfl, rfl, rfl⟩⟩
  · exact ⟨(if_neg fun ⟨_, hie, _⟩ => Bool.false_ne_true (hi.symm.trans hie)).symm, fun _ => ⟨rfl, rfl, rfl, rfl, rfl⟩⟩
  · rw [dispatched_last]
    refine ⟨(if_pos ⟨hc, hi, hsp⟩).symm, fun hne => ?_⟩
    have hend : s.last = .endPhase := Phase.eq_endPhase fun hl => hne ⟨hl, congrArg Phase.other hl⟩
    rw [dispatched_of_end (by exact hend)]
    exact ⟨rfl, rfl, rfl, rfl, rfl⟩

/-- Running one instruction leaves the phase, the parameters, and what the host supplies and receives (10_state.md R42,
R46). -/
theorem runInstruction_keeps {s t : State} (h : runInstruction s = .next t) :
    t.last = s.last ∧ t.config = s.config ∧ SameExchange s t := by
  cases hfetch : fetch s with
  | error f =>
    rw [runInstruction_of_fetch_error hfetch] at h
    cases h
    exact ⟨rfl, rfl, rfl, rfl, rfl, rfl, rfl⟩
  | ok i =>
    rw [runInstruction_of_fetch_ok hfetch] at h
    obtain ⟨hsw1, hsw2, hlast, hconf, hinputs, hdraws, hframes, -⟩ := portAndControlFrame i s t h
    exact ⟨hlast, hconf, hsw1, hsw2, hinputs, hdraws, hframes⟩

/-- A step that answers a next state raises in its check, or runs an instruction after it. -/
theorem step_next_check {s u : State} (h : step s = .next u) :
    s.fault = none ∧ s.config.wf = true ∧
    ((∃ f, interruptCheck s = .error f ∧ u = raise f s) ∨
     ∃ t, interruptCheck s = .ok t ∧ runInstruction t = .next u) := by
  obtain ⟨hf, hwf, hraise | ⟨t, hc, -⟩⟩ := step_next h
  · exact ⟨hf, hwf, .inl hraise⟩
  · exact ⟨hf, hwf, .inr ⟨t, hc, (step_of_check_ok hf hwf hc).symm.trans h⟩⟩

/-! ### The switch pairs still to come (70_reset_and_hazards.md R405) -/

namespace Unread

/-- A dispatch that is not of END looks at no pair. -/
theorem put_dispatched (x : Unread) {s : State} (h : s.last = .endPhase) :
    dispatched (x.put s) = x.put (dispatched s) := by
  rw [dispatched_of_end h, dispatched_of_end (s := x.put s) h]
  rfl

theorem interruptCheck_put_error (x : Unread) {s : State} {f : FatalFault} (h : interruptCheck s = .error f) :
    interruptCheck (x.put s) = .error f := by
  obtain ⟨hc, hi, hsp, rfl⟩ := interruptCheck_error h
  exact (interruptCheck_of_enabled (s := x.put s) hc hi).trans (if_pos hsp)

/-- A check that consumes no pair makes no END dispatch, so it goes the same way whatever the pairs are. -/
theorem interruptCheck_put (x : Unread) {s t : State} (h : interruptCheck s = .ok t) (hd : t.draws = s.draws) :
    interruptCheck (x.put s) = .ok (x.put t) := by
  obtain ⟨hc, rfl⟩ | ⟨hc, hi, rfl⟩ | ⟨hc, hi, hsp, rfl⟩ := interruptCheck_ok h
  · exact interruptCheck_of_le hc
  · exact interruptCheck_of_disabled hc hi
  · have hend : s.last = .endPhase := Phase.eq_endPhase fun hl => by
      rw [dispatched_of_mid (by exact hl)] at hd
      exact Nat.succ_ne_self s.draws hd
    refine ((interruptCheck_of_enabled (s := x.put s) hc hi).trans (if_neg hsp)).trans (congrArg Except.ok ?_)
    exact put_dispatched x (s := { s with cyc := s.cyc - s.config.cycleBudget }) hend

theorem runInstruction_put {x : Unread} {s t : State} (hx : s.config.cycCost = x.cycCost)
    (h : runInstruction s = .next t) : runInstruction (x.put s) = .next (x.put t) := by
  cases hfetch : fetch s with
  | error f =>
    rw [runInstruction_of_fetch_error hfetch] at h
    cases h
    exact runInstruction_of_fetch_error (s := x.put s) hfetch
  | ok i =>
    rw [runInstruction_of_fetch_ok hfetch] at h
    rw [runInstruction_of_fetch_ok (s := x.put s) hfetch]
    obtain ⟨f, rfl, hput⟩ | ⟨u, taken, hu, -, rfl, hput⟩ := exec_next h
    · exact hput x
    · rw [hput x, put_charge (by rw [hu.config, hx])]

theorem step_put {x : Unread} {s t : State} (hx : s.config.cycCost = x.cycCost) (h : step s = .next t)
    (hd : t.draws = s.draws) : step (x.put s) = .next (x.put t) := by
  obtain ⟨hf, hwf, ⟨f, hc, rfl⟩ | ⟨u, hc, hrun⟩⟩ := step_next_check h
  · exact step_of_check_error (s := x.put s) hf hwf (interruptCheck_put_error x hc)
  · obtain ⟨-, -, -, -, -, hdraws, -⟩ := runInstruction_keeps hrun
    have hcheck := interruptCheck_put x hc (hdraws.symm.trans hd)
    have hcost : u.config.cycCost = x.cycCost := by rw [interruptCheck_config hc, hx]
    exact (step_of_check_ok (s := x.put s) hf hwf hcheck).trans (runInstruction_put hcost hrun)

/-- With the cost table of `s` itself, only the pairs change. -/
theorem put_eq {x : Unread} {s : State} (hx : s.config.cycCost = x.cycCost) :
    x.put s = { s with inputs := x.inputs, draws := x.draws } := by
  rw [put, ← hx]

end Unread

theorem step_config {s t : State} (h : step s = .next t) : t.config = s.config := by
  obtain ⟨-, -, ⟨f, -, rfl⟩ | ⟨u, hc, hrun⟩⟩ := step_next_check h
  · rfl
  · obtain ⟨-, hconf, -⟩ := runInstruction_keeps hrun
    exact hconf.trans (interruptCheck_config hc)

/-! ### The stack top of the diagnostic (R334) -/

theorem lo8_stackTop (s : State) : lo8 (stackTop s) = s.mem.read s.sp := lo8_word _ _

theorem hi8_stackTop (s : State) : hi8 (stackTop s) = s.mem.read (s.sp + 1#16) := hi8_word _ _

/-! ### The obligations on the step -/

/-- Settles O24: the check of a step that makes no END dispatch, and the instruction after it, commute with any choice
of the pairs. -/
theorem inputsMatterOnlyAtEndDispatch : Obligations.InputsMatterOnlyAtEndDispatch := by
  intro s t inputs draws h hd
  have hstep := Unread.step_put (x := ⟨s.config.cycCost, inputs, draws⟩) rfl h hd
  rwa [Unread.put_eq rfl, Unread.put_eq (congrArg Config.cycCost (step_config h))] at hstep

/-- Settles O9: with 0x76 unassigned the instruction of a step is never the one without a next state. -/
theorem noOtherErrorExists : Obligations.NoOtherErrorExists := by
  refine ⟨fun i s hi => exec_is_next s hi, fun s hf hwf hhlt => ?_⟩
  cases hc : interruptCheck s with
  | error f => exact ⟨_, step_of_check_error hf hwf hc⟩
  | ok t =>
    rw [step_of_check_ok hf hwf hc]
    exact runInstruction_is_next (interruptCheck_config hc ▸ hhlt)

/-- Settles O19: the check is a dispatch, whose push stores PC and whose phase decides the side effect. -/
theorem dispatchEffect : Obligations.DispatchEffect := by
  intro s hc hi hsp
  refine ⟨_, (interruptCheck_of_enabled hc hi).trans (if_neg hsp), ?_, fun hl => ?_, fun hl => ?_⟩
  · intro x
    rw [dispatched_mem]
    exact pushed_read s.pc x s
  · rw [dispatched_of_end (by exact hl)]
    rfl
  · rw [dispatched_of_mid (by exact hl)]
    exact ⟨rfl, endSideEffect_frame _⟩

/-- Settles O20: a check that raises does not dispatch, and the instruction after one that does not raise keeps all of
these. -/
theorem phasesAlternateAndInputOnlyAtEnd : Obligations.PhasesAlternateAndInputOnlyAtEnd := by
  intro s t h
  obtain ⟨-, -, ⟨f, hc, rfl⟩ | ⟨u, hc, hrun⟩⟩ := step_next_check h
  · obtain ⟨-, -, hsp, -⟩ := interruptCheck_error hc
    exact ⟨(if_neg fun ⟨_, _, hne⟩ => hne hsp).symm, fun _ => ⟨rfl, rfl, rfl, rfl, rfl⟩⟩
  · obtain ⟨hlast, hsame⟩ := interruptCheck_last hc
    obtain ⟨hkept, -, hsw1, hsw2, hinputs, hdraws, hframes⟩ := runInstruction_keeps hrun
    rw [hkept, hsw1, hsw2, hinputs, hdraws, hframes]
    exact ⟨hlast, hsame⟩

/-- Settles O5: the step fetches after the check, and the fetch and the decoder read one instruction. -/
theorem stepRunsDecodedInstruction : Obligations.StepRunsDecodedInstruction := by
  intro s t i rest hf hwf hc hdec hi
  obtain rfl := decode_three_bytes hdec
  have hop : t.mem.read t.pc ∉ t.config.unassignedOpcodes := by
    simpa [Instr.wf, opcode_decodeBytes] using hi
  rw [step_of_check_ok hf hwf hc, runInstruction_of_fetch_ok (fetch_of_assigned hop)]

/-- Settles O18: the three cases of the check that do not dispatch. -/
theorem checkWithoutDispatch : Obligations.CheckWithoutDispatch := by
  refine fun s => ⟨interruptCheck_of_le, interruptCheck_of_disabled, fun hf hwf hc hi hsp => ?_⟩
  exact step_of_check_error hf hwf ((interruptCheck_of_enabled hc hi).trans (if_pos hsp))

/-- Settles O26: the fields are copied, and the bytes of the stack top are those it is made of. -/
theorem diagnosticOfStoppedState : Obligations.DiagnosticOfStoppedState := by
  intro s
  refine ⟨fun h => by rw [diagnostic, h, Option.map_none], fun f h => ?_⟩
  rw [diagnostic, h, Option.map_some]
  exact ⟨_, rfl, rfl, rfl, rfl, rfl, rfl, rfl, lo8_stackTop s, hi8_stackTop s⟩

/-- Settles O58: an unassigned byte is stopped at the fetch, and 0x76 by its own meaning as well. -/
theorem unassignedOpcodeRaisesDecodeFault : Obligations.UnassignedOpcodeRaisesDecodeFault := by
  refine ⟨fun s t hf hwf hc hop => ?_, fun s => ⟨rfl, fun h => ?_, fun h => ?_⟩⟩
  · exact (step_of_check_ok hf hwf hc).trans (runInstruction_of_fetch_error (fetch_of_unassigned hop))
  · exact (execUnassigned76_eq s).trans (if_pos h)
  · exact (execUnassigned76_eq s).trans (if_neg h)

end Sys2Proof.Machine
